-- ==== Sys2Proof/Word.lean ====
section
/-! DEFINITION. Word.lean: the word types of LFCORE (30_encoding.md R80, 10_state.md R21 to R29, 20_memory.md R60). -/

namespace Sys2Proof

/-- An operation word or a result word: 32 bits, bit 0 the least significant (R10, R80, R82). -/
abbrev Word := BitVec 32

/-- A counter, a duration, a brightness or an entry of an address space: 16 bits, unsigned (R22 to R29, R60). -/
abbrev Half := BitVec 16

/-- One byte of an operation word that a collaborator transports as bytes (R65). -/
abbrev Byte := BitVec 8

end Sys2Proof
end

