-- ==== Sys2Proof/Config.lean ====
section
/-! DEFINITION. Config.lean: the configuration record `cfg` of 00_scope.md R7 and the test configuration CFG-T of R9.

Every parameter is OPEN in the spec (92_eei_decisions.md Part 2), so none is a constant of the model: a machine state
carries its configuration as the read-only control registers of 10_state.md R41 (log 1), and a statement about every
state is a statement about every configuration. -/

namespace Sys2Proof

/-- `GKIND[g]` with the parameters that only that kind has (R7): INDICATOR has `GON`, `GMIN`, `GMAX`; DOUBLE has
`GD1`, `GGAP`, `GD2`, `GMIN`, `GMAX`; PULSE has none. All durations are in ms (R111). -/
inductive GenKind where
  | pulse
  | indicator (on minB maxB : Half)
  | double (d1 gap d2 minB maxB : Half)
  deriving DecidableEq, Repr

/-- One generator's configuration: `GKIND[g]`, `GP[g]`, `GHOLD[g]` (R7). -/
structure GenCfg where
  kind : GenKind
  period : Half
  hold : Bool
  deriving DecidableEq, Repr

/-- `ZSRC[z]`: what commits zone `z` into the frame (R7): its own fade (an ambient zone) or generator `g`. -/
inductive ZoneSrc where
  | fade
  | gen (g : Nat)
  deriving DecidableEq, Repr

/-- One zone's configuration: `ZCH[z]`, the ordered list of its channels, and `ZSRC[z]` (R7). -/
structure ZoneCfg where
  channels : List Nat
  src : ZoneSrc
  deriving DecidableEq, Repr

/-- The configuration record of R7. `NZ` and `NG` are the lengths of `zones` and `gens`. -/
structure Config where
  /-- `N`, the number of output channels. -/
  n : Nat
  /-- `MAX`, the largest brightness a frame entry may hold. -/
  maxLevel : Half
  /-- `HOLD_MS`, the motion hold time. -/
  holdMs : Half
  /-- `SHORT_MS`, the short-press threshold. -/
  shortMs : Half
  /-- `LONG_MS`, the long-press threshold. -/
  longMs : Half
  /-- `FADE_MS`, the fade duration of the scheduler. -/
  fadeMs : Half
  /-- `GATE`: generators start only after the fade-in timer expires. -/
  gate : Bool
  /-- `LONG_LOCKOUT`: a Long press also toggles the motion lock-out. -/
  longLockout : Bool
  /-- `CLOSED`, the pin level that means "button closed". -/
  closed : Bool
  zones : List ZoneCfg
  gens : List GenCfg
  /-- `DC_FULL[ch]`, one value for each channel. -/
  dcFull : List Half
  /-- `DC_HALF[ch]`, one value for each channel. -/
  dcHalf : List Half
  /-- `DC_MAX`, the largest dot-correction value. -/
  dcMax : Half
  deriving DecidableEq, Repr

/-- `NZ` (R7). -/
def Config.nz (c : Config) : Nat := c.zones.length

/-- `NG` (R7). -/
def Config.ng (c : Config) : Nat := c.gens.length

/-- The configuration of zone `z`. For `z >= NZ`, which no rule reads, a zone of no channels (log 14). -/
def Config.zoneCfg (c : Config) (z : Nat) : ZoneCfg := c.zones.getD z ⟨[], .fade⟩

/-- The configuration of generator `g`. For `g >= NG`, which no rule reads, a Pulse of period 2 (log 14). -/
def Config.genCfg (c : Config) (g : Nat) : GenCfg := c.gens.getD g ⟨.pulse, 2, false⟩

/-- `DC_FULL[ch]` (R7). -/
def Config.dcFullAt (c : Config) (ch : Nat) : Half := c.dcFull.getD ch 0

/-- `DC_HALF[ch]` (R7). -/
def Config.dcHalfAt (c : Config) (ch : Nat) : Half := c.dcHalf.getD ch 0

/-- CFG-T, the spec's one test configuration (R9). `State.reset` uses it: DESIGN CHOICE, log 2. -/
def Config.cfgT : Config where
  n := 8
  maxLevel := 63
  holdMs := 10000
  shortMs := 50
  longMs := 1000
  fadeMs := 500
  gate := true
  longLockout := true
  closed := false
  zones := [⟨[0, 1, 2, 3], .fade⟩, ⟨[4], .gen 0⟩, ⟨[5], .gen 1⟩, ⟨[6, 7], .gen 2⟩]
  gens := [⟨.pulse, 1000, false⟩, ⟨.indicator 500 0 63, 1000, false⟩, ⟨.double 100 200 100 0 100, 1000, false⟩]
  dcFull := [63, 63, 63, 63, 63, 63, 63, 63]
  dcHalf := [31, 31, 31, 31, 31, 31, 31, 31]
  dcMax := 63

end Sys2Proof
end

