-- ==== Sys2Proof/Syntax.lean ====
section
/-! DEFINITION. Syntax.lean: the 17 operations of 30_encoding.md R83, one constructor for each row of
spec/opcode_table.json, with the operands of R81. -/

namespace Sys2Proof

/-- The operations of LFCORE. `idx` is the 8-bit index operand, `imm` the 16-bit duration in ms, `level` the pin
level the handler read (R81). -/
inductive Instr where
  /-- TICK, the periodic 1 ms tick (R210). -/
  | tick
  /-- REFRESH, the grayscale-refresh tick (R211). -/
  | refresh
  /-- MOTION_EDGE, `onMotionEdge()` (R150). -/
  | motionEdge
  /-- BUTTON_EDGE `level`, the button edge interrupt (R160). -/
  | buttonEdge (level : Bool)
  /-- POLL, one main-loop iteration (R214). -/
  | poll
  /-- RESET, startup initialisation (R216). -/
  | reset
  /-- STATUS, read-out of the scalar flags (R217). -/
  | status
  /-- GEN_START `g`, `start()` (R103). -/
  | genStart (idx : BitVec 8)
  /-- GEN_STOP `g`, `stop()` (R104). -/
  | genStop (idx : BitVec 8)
  /-- GEN_ISRUN `g`, `isRunning()` (R105). -/
  | genIsrun (idx : BitVec 8)
  /-- GEN_STEP `g`, `step(elapsedMs)` (R106). -/
  | genStep (idx : BitVec 8)
  /-- ZONE_ON `z, d`, `on(durationMs)` (R131). -/
  | zoneOn (idx : BitVec 8) (imm : Half)
  /-- ZONE_OFF `z, d`, `off(durationMs)` (R132). -/
  | zoneOff (idx : BitVec 8) (imm : Half)
  /-- ZONE_RUN `z`, `run()` (R133). -/
  | zoneRun (idx : BitVec 8)
  /-- MOTION_TICK, the motion poll `tick()` (R151). -/
  | motionTick
  /-- BTN_CONSUME, the reaction to the classification event (R163). -/
  | btnConsume
  /-- SCHED_STEP, one scheduler step (R181). -/
  | schedStep
  deriving DecidableEq, Repr

/-- The four operation formats of R80. -/
inductive Format where
  /-- event, no operand -/
  | E
  /-- level -/
  | L
  /-- index -/
  | I
  /-- index and duration -/
  | D
  deriving DecidableEq, Repr

/-- The two execution contexts of R240; RESET and STATUS belong to neither. Descriptive only: no step reads it. -/
inductive Context where
  | interrupt
  | mainLoop
  | either
  deriving DecidableEq, Repr

/-- The format column of R83. -/
def Instr.format : Instr → Format
  | .tick => .E
  | .refresh => .E
  | .motionEdge => .E
  | .buttonEdge _ => .L
  | .poll => .E
  | .reset => .E
  | .status => .E
  | .genStart _ => .I
  | .genStop _ => .I
  | .genIsrun _ => .I
  | .genStep _ => .I
  | .zoneOn _ _ => .D
  | .zoneOff _ _ => .D
  | .zoneRun _ => .I
  | .motionTick => .E
  | .btnConsume => .E
  | .schedStep => .E

/-- The context column of R83 (R240). -/
def Instr.context : Instr → Context
  | .tick => .interrupt
  | .refresh => .interrupt
  | .motionEdge => .interrupt
  | .buttonEdge _ => .interrupt
  | .poll => .mainLoop
  | .reset => .either
  | .status => .either
  | .genStart _ => .mainLoop
  | .genStop _ => .mainLoop
  | .genIsrun _ => .mainLoop
  | .genStep _ => .mainLoop
  | .zoneOn _ _ => .mainLoop
  | .zoneOff _ _ => .mainLoop
  | .zoneRun _ => .mainLoop
  | .motionTick => .mainLoop
  | .btnConsume => .mainLoop
  | .schedStep => .mainLoop

/-- The mnemonic column of R83. -/
def Instr.mnemonic : Instr → String
  | .tick => "TICK"
  | .refresh => "REFRESH"
  | .motionEdge => "MOTION_EDGE"
  | .buttonEdge _ => "BUTTON_EDGE"
  | .poll => "POLL"
  | .reset => "RESET"
  | .status => "STATUS"
  | .genStart _ => "GEN_START"
  | .genStop _ => "GEN_STOP"
  | .genIsrun _ => "GEN_ISRUN"
  | .genStep _ => "GEN_STEP"
  | .zoneOn _ _ => "ZONE_ON"
  | .zoneOff _ _ => "ZONE_OFF"
  | .zoneRun _ => "ZONE_RUN"
  | .motionTick => "MOTION_TICK"
  | .btnConsume => "BTN_CONSUME"
  | .schedStep => "SCHED_STEP"

end Sys2Proof
end

