-- ==== Sys2Proof/WellFormed.lean ====
section
/-! DEFINITION. WellFormed.lean: which configurations have a meaning (00_scope.md R7, R8) and which operations are in
range (30_encoding.md R81, R84). -/

namespace Sys2Proof

/-- The ranges of R7 for one generator: `GP >= 2` for a Pulse and `GP >= 1` for the others, `GON <= GP`,
`GD1 + GGAP + GD2 < GP`, `GMIN <= GMAX`. -/
def GenCfg.wf (g : GenCfg) : Bool :=
  match g.kind with
  | .pulse => 2 ≤ g.period.toNat
  | .indicator on minB maxB => 1 ≤ g.period.toNat && on.toNat ≤ g.period.toNat && minB.toNat ≤ maxB.toNat
  | .double d1 gap d2 minB maxB => d1.toNat + gap.toNat + d2.toNat < g.period.toNat && minB.toNat ≤ maxB.toNat

/-- The range of `ZSRC[z]` (R7): a generator that drives a zone exists. -/
def ZoneSrc.wf (ng : Nat) : ZoneSrc → Bool
  | .fade => true
  | .gen g => g < ng

/-- A well-formed configuration (R8): every range and relation of R7. The widths of the 16-bit parameters and the
0..1 ranges hold by their types. The channel lists together hold no channel twice (a partition of a subset of
`0..N-1`), and the two dot-correction tables have one value for each channel. -/
abbrev Config.wf (c : Config) : Prop :=
  (1 ≤ c.n ∧ c.n ≤ 256) ∧ 1 ≤ c.maxLevel.toNat ∧ c.shortMs.toNat ≤ c.longMs.toNat ∧
  c.nz ≤ 256 ∧ c.ng ≤ 256 ∧
  (∀ z ∈ c.zones, ∀ ch ∈ z.channels, ch < c.n) ∧ (c.zones.flatMap ZoneCfg.channels).Nodup ∧
  (∀ z ∈ c.zones, z.src.wf c.ng = true) ∧ (∀ g ∈ c.gens, g.wf = true) ∧
  (c.dcFull.length = c.n ∧ (c.dcFull.all fun v => v.toNat ≤ c.dcMax.toNat) = true) ∧
  (c.dcHalf.length = c.n ∧ (c.dcHalf.all fun v => v.toNat ≤ c.dcMax.toNat) = true)

/-- The index condition of R81 and R84: a generator index is below `NG`, a zone index below `NZ`. Every value of
`level` and of `imm16` is legal. -/
def Instr.wf (nz ng : Nat) : Instr → Bool
  | .tick => true
  | .refresh => true
  | .motionEdge => true
  | .buttonEdge _ => true
  | .poll => true
  | .reset => true
  | .status => true
  | .genStart g => g.toNat < ng
  | .genStop g => g.toNat < ng
  | .genIsrun g => g.toNat < ng
  | .genStep g => g.toNat < ng
  | .zoneOn z _ => z.toNat < nz
  | .zoneOff z _ => z.toNat < nz
  | .zoneRun z => z.toNat < nz
  | .motionTick => true
  | .btnConsume => true
  | .schedStep => true

end Sys2Proof
end

