-- ==== Sys2Proof/Decode.lean ====
section
/-! DEFINITION. Decode.lean: the operation encoding of 30_encoding.md: fields (R80, R81), decoder and refusal reasons
(R83, R84, R231), encoder, the transport of a word as bytes (R65), the pseudo-operations (R87). -/

namespace Sys2Proof

/-- Why a word is no operation: R231's three reasons, in the order in which they apply, and `truncated`, the model's
own name for a transported byte sequence that ends before a word is complete (log 10). -/
inductive DecodeRefusal where
  /-- the opcode is not in the table of R83 -/
  | badOpcode
  /-- a must-be-0 field of the format is not 0 -/
  | reservedField
  /-- `idx >= NG` or `idx >= NZ` -/
  | badIndex
  /-- fewer than four bytes -/
  | truncated
  deriving DecidableEq, Repr

/-! ## Fields -/

/-- `op = w[31:24]` (R80). -/
def opField (w : Word) : BitVec 8 := w.extractLsb' 24 8

/-- `idx = w[23:16]` (R81). -/
def idxField (w : Word) : BitVec 8 := w.extractLsb' 16 8

/-- `imm16 = w[15:0]` (R81). -/
def immField (w : Word) : Half := w.extractLsb' 0 16

/-- `level = w[0]` (R81). -/
def levelField (w : Word) : Bool := w.getLsbD 0

/-- The must-be-0 bits of a format (R80). -/
def Format.reserved : Format → Word
  | .E => 0x00FFFFFF
  | .L => 0x00FFFFFE
  | .I => 0x0000FFFF
  | .D => 0x00000000

/-! ## Decoder -/

/-- The opcode map of R83, with the operands of R81 taken from their fields. -/
def instrOfOpcode (w : Word) : Option Instr :=
  match (opField w).toNat with
  | 0x01 => some .tick
  | 0x02 => some .refresh
  | 0x03 => some .motionEdge
  | 0x04 => some (.buttonEdge (levelField w))
  | 0x05 => some .poll
  | 0x06 => some .reset
  | 0x07 => some .status
  | 0x10 => some (.genStart (idxField w))
  | 0x11 => some (.genStop (idxField w))
  | 0x12 => some (.genIsrun (idxField w))
  | 0x13 => some (.genStep (idxField w))
  | 0x20 => some (.zoneOn (idxField w) (immField w))
  | 0x21 => some (.zoneOff (idxField w) (immField w))
  | 0x22 => some (.zoneRun (idxField w))
  | 0x30 => some .motionTick
  | 0x40 => some .btnConsume
  | 0x50 => some .schedStep
  | _ => none

/-- The decoder (R83, R84, R85): total on all words, a function of the word and of `NZ` and `NG` alone; the first
reason that applies is the reason of the refusal (R231). -/
def decode (nz ng : Nat) (w : Word) : Except DecodeRefusal Instr :=
  match instrOfOpcode w with
  | none => .error .badOpcode
  | some i =>
    if w &&& i.format.reserved ≠ 0 then .error .reservedField
    else if i.wf nz ng then .ok i
    else .error .badIndex

/-! ## Encoder -/

/-- A word of the formats I and D from its fields (R80). -/
def fieldsWord (op idx : BitVec 8) (imm : Half) : Word := op ++ idx ++ imm

/-- The word of an operation, from the formats of R80 and the opcodes of R83. -/
def encode : Instr → Word
  | .tick => fieldsWord 0x01 0 0
  | .refresh => fieldsWord 0x02 0 0
  | .motionEdge => fieldsWord 0x03 0 0
  | .buttonEdge level => fieldsWord 0x04 0 ((BitVec.ofBool level).setWidth 16)
  | .poll => fieldsWord 0x05 0 0
  | .reset => fieldsWord 0x06 0 0
  | .status => fieldsWord 0x07 0 0
  | .genStart idx => fieldsWord 0x10 idx 0
  | .genStop idx => fieldsWord 0x11 idx 0
  | .genIsrun idx => fieldsWord 0x12 idx 0
  | .genStep idx => fieldsWord 0x13 idx 0
  | .zoneOn idx imm => fieldsWord 0x20 idx imm
  | .zoneOff idx imm => fieldsWord 0x21 idx imm
  | .zoneRun idx => fieldsWord 0x22 idx 0
  | .motionTick => fieldsWord 0x30 0 0
  | .btnConsume => fieldsWord 0x40 0 0
  | .schedStep => fieldsWord 0x50 0 0

/-- The `match` column of R83, written out from the table. -/
def Instr.matchWord : Instr → Word
  | .tick => 0x01000000
  | .refresh => 0x02000000
  | .motionEdge => 0x03000000
  | .buttonEdge _ => 0x04000000
  | .poll => 0x05000000
  | .reset => 0x06000000
  | .status => 0x07000000
  | .genStart _ => 0x10000000
  | .genStop _ => 0x11000000
  | .genIsrun _ => 0x12000000
  | .genStep _ => 0x13000000
  | .zoneOn _ _ => 0x20000000
  | .zoneOff _ _ => 0x21000000
  | .zoneRun _ => 0x22000000
  | .motionTick => 0x30000000
  | .btnConsume => 0x40000000
  | .schedStep => 0x50000000

/-- The `mask` column of R83, written out from the table. -/
def Instr.maskWord : Instr → Word
  | .tick => 0xFFFFFFFF
  | .refresh => 0xFFFFFFFF
  | .motionEdge => 0xFFFFFFFF
  | .buttonEdge _ => 0xFFFFFFFE
  | .poll => 0xFFFFFFFF
  | .reset => 0xFFFFFFFF
  | .status => 0xFFFFFFFF
  | .genStart _ => 0xFF00FFFF
  | .genStop _ => 0xFF00FFFF
  | .genIsrun _ => 0xFF00FFFF
  | .genStep _ => 0xFF00FFFF
  | .zoneOn _ _ => 0xFF000000
  | .zoneOff _ _ => 0xFF000000
  | .zoneRun _ => 0xFF00FFFF
  | .motionTick => 0xFFFFFFFF
  | .btnConsume => 0xFFFFFFFF
  | .schedStep => 0xFFFFFFFF

/-- The operands of an operation are the fields of the word (R81). -/
def Instr.operandsOf (w : Word) : Instr → Bool
  | .tick => true
  | .refresh => true
  | .motionEdge => true
  | .buttonEdge level => level == levelField w
  | .poll => true
  | .reset => true
  | .status => true
  | .genStart idx => idx == idxField w
  | .genStop idx => idx == idxField w
  | .genIsrun idx => idx == idxField w
  | .genStep idx => idx == idxField w
  | .zoneOn idx imm => idx == idxField w && imm == immField w
  | .zoneOff idx imm => idx == idxField w && imm == immField w
  | .zoneRun idx => idx == idxField w
  | .motionTick => true
  | .btnConsume => true
  | .schedStep => true

/-! ## Transport as bytes -/

/-- The word of four transported bytes, the byte of bits 7:0 first (R65). -/
def wordOfBytes (b0 b1 b2 b3 : Byte) : Word := b3 ++ b2 ++ b1 ++ b0

/-- The bytes of a word in the order a collaborator transports them (R65). -/
def bytesOfWord (w : Word) : List Byte :=
  [w.extractLsb' 0 8, w.extractLsb' 8 8, w.extractLsb' 16 8, w.extractLsb' 24 8]

/-- The decoder over transported bytes: the operation of the first word and the bytes that follow it. -/
def decodeBytes (nz ng : Nat) : List Byte → Except DecodeRefusal (Instr × List Byte)
  | b0 :: b1 :: b2 :: b3 :: rest =>
    match decode nz ng (wordOfBytes b0 b1 b2 b3) with
    | .ok i => .ok (i, rest)
    | .error r => .error r
  | _ => .error .truncated

/-- The operation word whose low `nbits` bits are those of `w`, all others 0. -/
def tableWord (nbits w : Nat) : Word := BitVec.ofNat 32 (w % 2 ^ nbits)

/-- The operation the decoder reads from an instruction whose bits are `w`, laid out in bytes as R65 says, under the
`NZ` and `NG` of CFG-T, the configuration of `State.reset` (log 12). -/
def decodeTableWord (nbits w : Nat) : Option Instr :=
  match decodeBytes Config.cfgT.nz Config.cfgT.ng (bytesOfWord (tableWord nbits w)) with
  | .ok (i, _) => some i
  | .error _ => none

/-! ## Pseudo-operations and assembler text -/

/-- `STEP`: TICK then POLL (R87). -/
def pseudoStep : List Instr := [.tick, .poll]

/-- `STEP k`: STEP repeated `k` times (R87). -/
def pseudoSteps : Nat → List Instr
  | 0 => []
  | k + 1 => pseudoStep ++ pseudoSteps k

/-- `TICKS k`: TICK repeated `k` times (R87). -/
def pseudoTicks (k : Nat) : List Instr := List.replicate k .tick

/-- `PRESS`: BUTTON_EDGE CLOSED (R87). -/
def pseudoPress (c : Config) : Instr := .buttonEdge c.closed

/-- `RELEASE`: BUTTON_EDGE (1 - CLOSED) (R87). -/
def pseudoRelease (c : Config) : Instr := .buttonEdge (!c.closed)

/-- The operands of an operation in the order of the textual form, as numbers (R86). -/
def Instr.operands : Instr → List Nat
  | .tick => []
  | .refresh => []
  | .motionEdge => []
  | .buttonEdge level => [level.toNat]
  | .poll => []
  | .reset => []
  | .status => []
  | .genStart idx => [idx.toNat]
  | .genStop idx => [idx.toNat]
  | .genIsrun idx => [idx.toNat]
  | .genStep idx => [idx.toNat]
  | .zoneOn idx imm => [idx.toNat, imm.toNat]
  | .zoneOff idx imm => [idx.toNat, imm.toNat]
  | .zoneRun idx => [idx.toNat]
  | .motionTick => []
  | .btnConsume => []
  | .schedStep => []

/-- The textual form of R86: the mnemonic, then the operands in decimal, separated by a comma. -/
def Instr.text (i : Instr) : String :=
  match i.operands with
  | [] => i.mnemonic
  | a :: rest => rest.foldl (fun t b => t ++ ", " ++ Nat.repr b) (i.mnemonic ++ " " ++ Nat.repr a)

end Sys2Proof
end

