-- ==== Sys2Proof/Machine/State.lean ====
section
/-! DEFINITION. Machine/State.lean: the architectural state of LFCORE (10_state.md R20 to R29, R41 to R43; 20_memory.md
R60), the reasons a step can stop, and the state after RESET (R45). -/

namespace Sys2Proof.Machine

/-- The faults of LFCORE: none. LFCORE raises no exception and no operation is `fault` or `stuck` (R230,
93_implementation_defined.md), so no step of the model answers a fault (log 8). -/
inductive Fault
  deriving DecidableEq, Repr

/-- Why the model gives a step no meaning. A refused operation WORD is not among these: R231 gives it an effect, and
the machine goes on (log 6). -/
inductive Refusal where
  /-- Raised by an arm of `exec` for an operation that has no meaning yet; no arm of this model raises it. Safe: the run
  stops. -/
  | notModelled (mnemonic : String)
  /-- Raised by `step` when the configuration is not well-formed: "a model refuses any other" (R8). Safe: the run stops. -/
  | illFormedConfig
  deriving DecidableEq, Repr

/-- `pressClass`, 2 bits: the four patterns 0, 1, 2 and 3 in order (R23). -/
inductive PressClass where
  | none
  | short
  | long
  /-- the pattern 3, never stored by an operation (R23, R163) -/
  | three
  deriving DecidableEq, Repr

/-- `sched`, 2 bits: the scheduler's states, numbered 0 to 3 in order (R26). -/
inductive Sched where
  | idle
  | fadingIn
  | steadyOn
  | fadingOut
  deriving DecidableEq, Repr

/-- `gen[g].mode`, 2 bits: the four patterns 0, 1, 2 and 3 in order (R29). -/
inductive GenMode where
  | stopped
  | running
  /-- Pulse only: fading to zero after `stop()` -/
  | stopping
  /-- the pattern 3, never stored by an operation; treated as STOPPED (R262) -/
  | three
  deriving DecidableEq, Repr

/-- The five registers of a zone (R28); `fromLevel` is the spec's `from`. -/
structure Zone where
  cur : Half
  fromLevel : Half
  target : Half
  dur : Half
  elapsed : Half
  deriving DecidableEq, Repr

/-- The four registers of a generator (R29). -/
structure Gen where
  mode : GenMode
  acc : Half
  last : Half
  fadeFrom : Half
  deriving DecidableEq, Repr

/-- The contents of one address space: the listed entries, channel and value (R60, log 9). -/
abbrev Memory := List (Nat × Half)

/-- The state of LFCORE. -/
@[ext]
structure State where
  /-- The configuration as read-only control registers (R41, log 1). -/
  cfg : Config
  /-- The MODEL's own field: the operation words the environment is still to present on `cmd`, the next one first
  (R42, R70, log 3). `cmd_valid` is "not empty". -/
  cmd : List Word
  /-- R21 -/
  now : BitVec 32
  /-- R22 -/
  inMotion : Bool
  /-- R22 -/
  motionTimer : Half
  /-- R23 -/
  lastLevel : Bool
  /-- R23 -/
  depressed : Bool
  /-- R23 -/
  shortTimer : Half
  /-- R23 -/
  longTimer : Half
  /-- R23 -/
  pressClass : PressClass
  /-- R25 -/
  halfBrightness : Bool
  /-- R25 -/
  lockout : Bool
  /-- R26 -/
  sched : Sched
  /-- R26 -/
  fadeInTimer : Half
  /-- R26 -/
  fadeOutTimer : Half
  /-- R27; the output port `sleep_req` is this bit (R43) -/
  asleep : Bool
  /-- The zone register file (R28). -/
  zones : List Zone
  /-- The generator register file (R29). -/
  gens : List Gen
  /-- Address space FRAME (R60, R61). -/
  frame : Memory
  /-- Address space DC (R60, R62). -/
  dc : Memory
  /-- Output `result`: the result word of the last operation (R43, R82). -/
  result : Word
  /-- Output strobe `cmd_err`: the last operation word was refused (R43, R231). -/
  cmdErr : Bool
  /-- Output `frame_out`: the frame last sent, channel 0 first (R43, R65). -/
  frameOut : List Half
  /-- Output strobe `frame_valid` (R43). -/
  frameValid : Bool
  /-- Output `dc_out`: the dot-correction table last presented, channel 0 first (R43, R65). -/
  dcOut : List Half
  /-- Output strobe `dc_write` (R43). -/
  dcWrite : Bool
  deriving DecidableEq, Repr

/-- A zone after RESET: off, settled at target 0 (R28, R45). -/
def Zone.zero : Zone := ⟨0, 0, 0, 0, 0⟩

/-- A generator after RESET: STOPPED, all else 0 (R29, R45). -/
def Gen.zero : Gen := ⟨.stopped, 0, 0, 0⟩

/-- The state right after RESET under configuration `c` (the table of R45, and R216 for the outputs), with the words
`input` still to be presented. FRAME reads 0 and DC reads DC_FULL where nothing is listed. -/
def State.resetOf (c : Config) (input : List Word) : State where
  cfg := c
  cmd := input
  now := 0
  inMotion := false
  motionTimer := 0
  lastLevel := !c.closed
  depressed := false
  shortTimer := 0
  longTimer := 0
  pressClass := .none
  halfBrightness := false
  lockout := false
  sched := .idle
  fadeInTimer := 0
  fadeOutTimer := 0
  asleep := false
  zones := List.replicate c.nz Zone.zero
  gens := List.replicate c.ng Gen.zero
  frame := []
  dc := []
  result := 0
  cmdErr := false
  frameOut := List.replicate c.n 0
  frameValid := false
  dcOut := (List.range c.n).map c.dcFullAt
  dcWrite := true

/-- The machine right after RESET (R45), with CFG-T as its configuration (DESIGN CHOICE, log 2) and no operation word
presented yet (log 3). -/
def State.reset : State := State.resetOf Config.cfgT []

end Sys2Proof.Machine
end

