-- ==== Sys2Proof/Machine/Ops.lean ====
section
/-! DEFINITION. Machine/Ops.lean: the named operations over the address spaces, the register files and the ports, which
every meaning is written with (00_scope.md R11, R12; 20_memory.md R60 to R68; 60_exceptions.md R231, R234). -/

namespace Sys2Proof.Machine

/-! ## Arithmetic of R11 -/

/-- `dec(t) = max(0, t - 1)`: "timers clamp at zero" (R11, R135 ii). -/
def dec (t : Half) : Half := BitVec.ofNat 16 (t.toNat - 1)

/-- `clampB(v) = min(v, MAX)` (R11). -/
def clampB (c : Config) (v : Half) : Half := BitVec.ofNat 16 (min v.toNat c.maxLevel.toNat)

/-! ## Address spaces -/

/-- The two address spaces of R60. -/
inductive Space where
  | frame
  | dc
  deriving DecidableEq, Repr

/-- What a channel that is not listed reads as: its reset contents, 0 in FRAME and DC_FULL[ch] in DC (R45). -/
def unlisted (c : Config) : Space → Nat → Half
  | .frame, _ => 0
  | .dc, ch => c.dcFullAt ch

/-- The entry of `m` at channel `ch`, where `dflt` gives what is not listed. -/
def Memory.read (dflt : Nat → Half) : Memory → Nat → Half
  | [], ch => dflt ch
  | (k, v) :: m, ch => if k = ch then v else Memory.read dflt m ch

/-- `m` with entry `v` at channel `ch`, in canonical form: a value that an unlisted channel reads as is not listed. -/
def Memory.write (dflt : Nat → Half) : Memory → Nat → Half → Memory
  | [], ch, v => if v = dflt ch then [] else [(ch, v)]
  | (k, x) :: m, ch, v =>
    if ch < k then (if v = dflt ch then (k, x) :: m else (ch, v) :: (k, x) :: m)
    else if ch = k then (if v = dflt ch then m else (ch, v) :: m)
    else (k, x) :: Memory.write dflt m ch v

/-- The canonical form: channels strictly rising, and no entry equal to what an unlisted channel reads as. -/
abbrev Memory.wf (dflt : Nat → Half) (m : Memory) : Prop :=
  List.Pairwise (fun a b : Nat × Half => a.1 < b.1) m ∧ ∀ e ∈ m, e.2 ≠ dflt e.1

/-- The contents of an address space. -/
def State.space (s : State) : Space → Memory
  | .frame => s.frame
  | .dc => s.dc

/-- `MemRead(space, ch)` (R12): one whole entry, without side effect (R66, R67). -/
def State.memRead (s : State) (sp : Space) (ch : Nat) : Half :=
  Memory.read (unlisted s.cfg sp) (s.space sp) ch

/-- `MemWrite(space, ch, v)` (R12). -/
def State.memWrite (s : State) (sp : Space) (ch : Nat) (v : Half) : State :=
  match sp with
  | .frame => { s with frame := Memory.write (unlisted s.cfg .frame) s.frame ch v }
  | .dc => { s with dc := Memory.write (unlisted s.cfg .dc) s.dc ch v }

/-- The entries of channels `0 .. N-1` in order, as the ports present them (R65). -/
def State.vector (s : State) (sp : Space) : List Half := (List.range s.cfg.n).map (s.memRead sp)

/-- A commit of value `v` for zone `z` (R68): every channel of the zone, in list order, gets `min(v, MAX)`. -/
def State.commit (s : State) (z : Nat) (v : Half) : State :=
  (s.cfg.zoneCfg z).channels.foldl (fun t ch => t.memWrite .frame ch (clampB t.cfg v)) s

/-! ## Register files -/

/-- Zone `z`'s registers. Beyond the file, which no rule reads, those of reset (log 14). -/
def State.zone (s : State) (z : Nat) : Zone := s.zones.getD z Zone.zero

/-- Write zone `z`'s registers. -/
def State.setZone (s : State) (z : Nat) (r : Zone) : State := { s with zones := s.zones.set z r }

/-- Generator `g`'s registers. Beyond the file, which no rule reads, those of reset (log 14). -/
def State.gen (s : State) (g : Nat) : Gen := s.gens.getD g Gen.zero

/-- Write generator `g`'s registers. -/
def State.setGen (s : State) (g : Nat) (r : Gen) : State := { s with gens := s.gens.set g r }

/-- The ambient zones, in index order: the zones with `ZSRC[z] = FADE` (R181). -/
def ambientZones (c : Config) : List Nat :=
  (List.range c.nz).filter fun z => decide ((c.zoneCfg z).src = .fade)

/-- The zones bound to generator `g`, in index order: `ZSRC[z] = GEN g` (R106). -/
def boundZones (c : Config) (g : Nat) : List Nat :=
  (List.range c.nz).filter fun z => decide ((c.zoneCfg z).src = .gen g)

/-! ## Ports and the beginning of an operation -/

/-- The output `sleep_req` equals `asleep` (R43). -/
def State.sleepReq (s : State) : Bool := s.asleep

/-- The output `now_ms` equals `now` (R43). -/
def State.nowMs (s : State) : BitVec 32 := s.now

/-- The input strobe `cmd_valid`: an operation word is presented (R42). -/
def State.cmdValid (s : State) : Bool := !s.cmd.isEmpty

/-- The ports of an operation that is performed, before its own effect: no strobe is pulsed and `result` is 0 (R82,
R43). A strobe lasts the one step that pulses it (log 5). -/
def State.beginOp (s : State) : State :=
  { s with result := 0, cmdErr := false, frameValid := false, dcWrite := false }

/-- Drive `result`. -/
def State.withResult (s : State) (w : Word) : State := { s with result := w }

/-- A step in which no operation word is presented: the strobes fall and nothing else changes (log 4). -/
def State.idle (s : State) : State := { s with cmdErr := false, frameValid := false, dcWrite := false }

/-- `emit dc_out(DC) ; emit dc_write` (R164). -/
def State.emitDc (s : State) : State := { s with dcOut := s.vector .dc, dcWrite := true }

/-! ## The abnormal outcome, and the entry of an interrupt

LFCORE raises no exception and has nothing to return from (R230, R234, R235). What stands in their place is the refusal
of an operation word and the one effect that all four interrupt-context operations begin with. -/

/-- `raise Refused(reason)` (R231): no register, no entry of FRAME or DC and no output but `cmd_err` changes, `result`
is 0, `cmd_err` is pulsed. The hardware reports one bit, so the reason is not part of the state. -/
def State.raiseRefused (s : State) : State := { s.beginOp with cmdErr := true }

/-- `asleep <- 0`, the beginning of every interrupt-context operation (R27, R215). -/
def State.wake (s : State) : State := { s with asleep := false }

end Sys2Proof.Machine
end

