-- ==== Sys2Proof/Machine/Operands.lean ====
section
/-! DEFINITION. Machine/Operands.lean: how an operation is performed over its operand: none, a generator index or a zone
index (30_encoding.md R80, R81, R84). Every operation completes; one whose index is out of range is refused. -/

namespace Sys2Proof.Machine

/-- Perform an operation without an index operand (formats E and L). -/
def perform (s : State) (body : State → State) : Host.Outcome State Fault Refusal :=
  .next (body s.beginOp)

/-- Perform an operation on generator `idx`: refused when `idx >= NG` (R84, R231). -/
def performGen (idx : BitVec 8) (s : State) (body : Nat → State → State) : Host.Outcome State Fault Refusal :=
  if idx.toNat < s.cfg.ng then .next (body idx.toNat s.beginOp) else .next s.raiseRefused

/-- Perform an operation on zone `idx`: refused when `idx >= NZ` (R84, R231). -/
def performZone (idx : BitVec 8) (s : State) (body : Nat → State → State) : Host.Outcome State Fault Refusal :=
  if idx.toNat < s.cfg.nz then .next (body idx.toNat s.beginOp) else .next s.raiseRefused

end Sys2Proof.Machine
end

