-- ==== Sys2Proof/Machine/Button.lean ====
section
/-! DEFINITION. Machine/Button.lean: BUTTON_EDGE and BTN_CONSUME (43_button_classifier.md R160 to R167). -/

namespace Sys2Proof.Machine

/-- `classify()` (R162): the long timer is tested first. -/
def State.classify (s : State) : PressClass :=
  if s.longTimer = 0 then .long
  else if s.shortTimer = 0 then .short
  else .none

/-- A press edge (R160): both timers are loaded. -/
def State.pressEdge (s : State) : State :=
  { s with depressed := true, shortTimer := s.cfg.shortMs, longTimer := s.cfg.longMs }

/-- A release edge (R160): a class other than None becomes the pending one. -/
def State.releaseEdge (s : State) : State :=
  if s.depressed then
    { s with depressed := false, pressClass := if s.classify = .none then s.pressClass else s.classify }
  else s

/-- BUTTON_EDGE after the wake (R160), behind the edge-only filter (R161). -/
def State.buttonEdge (level : Bool) (s : State) : State :=
  if level = s.lastLevel then s
  else
    let t := { s with lastLevel := level }
    if level = t.cfg.closed then t.pressEdge else t.releaseEdge

/-- `short_action()` (R164): the whole dot-correction table is rewritten and presented. -/
def State.shortAction (s : State) : State :=
  let t := { s with halfBrightness := !s.halfBrightness }
  ((List.range t.cfg.n).foldl
    (fun u ch => u.memWrite .dc ch (if u.halfBrightness then u.cfg.dcHalfAt ch else u.cfg.dcFullAt ch)) t).emitDc

/-- `long_action()` (R165). -/
def State.longAction (s : State) : State :=
  { s with inMotion := false, motionTimer := 0, lockout := if s.cfg.longLockout then !s.lockout else s.lockout }

/-- `call BTN_CONSUME` (R163); the pattern 3 is treated as None. -/
def State.btnConsume (s : State) : State :=
  let t := { s with pressClass := .none }
  match s.pressClass with
  | .none => t
  | .short => t.shortAction
  | .long => t.longAction
  | .three => t

/-- BUTTON_EDGE (R160). -/
def execButtonEdge (level : Bool) (s : State) : Host.Outcome State Fault Refusal :=
  perform s fun t => t.wake.buttonEdge level

/-- BTN_CONSUME (R163). -/
def execBtnConsume (s : State) : Host.Outcome State Fault Refusal :=
  perform s fun t => t.btnConsume

end Sys2Proof.Machine
end

