-- ==== Sys2Proof/Machine/Motion.lean ====
section
/-! DEFINITION. Machine/Motion.lean: MOTION_EDGE and MOTION_TICK (42_motion_debounce.md R150 to R153). -/

namespace Sys2Proof.Machine

/-- MOTION_EDGE after the wake (R150): the hold time is loaded, never accumulated; under lock-out nothing. -/
def State.motionEdge (s : State) : State :=
  if s.lockout then s else { s with motionTimer := s.cfg.holdMs, inMotion := true }

/-- `call MOTION_TICK` (R151). -/
def State.motionTick (s : State) : State :=
  if s.motionTimer = 0 then { s with inMotion := false } else s

/-- MOTION_EDGE (R150). -/
def execMotionEdge (s : State) : Host.Outcome State Fault Refusal :=
  perform s fun t => t.wake.motionEdge

/-- MOTION_TICK (R151). -/
def execMotionTick (s : State) : Host.Outcome State Fault Refusal :=
  perform s fun t => t.motionTick

end Sys2Proof.Machine
end

