-- ==== Sys2Proof/Machine/Flags.lean ====
section
/-! DEFINITION. Machine/Flags.lean: the bit patterns of the 2-bit registers (10_state.md R23, R26), the flag word of
STATUS (45_top_level_events.md R217), the other result words (30_encoding.md R82), and the states the spec derives from
registers (R24, R244). -/

namespace Sys2Proof.Machine

/-- The bit pattern of `pressClass` (R23). -/
def PressClass.bits : PressClass → BitVec 2
  | .none => 0
  | .short => 1
  | .long => 2
  | .three => 3

/-- The bit pattern of `sched` (R26). -/
def Sched.bits : Sched → BitVec 2
  | .idle => 0
  | .fadingIn => 1
  | .steadyOn => 2
  | .fadingOut => 3

/-- The bit pattern of `gen[g].mode` (R29). -/
def GenMode.bits : GenMode → BitVec 2
  | .stopped => 0
  | .running => 1
  | .stopping => 2
  | .three => 3

/-- The flag word of STATUS, `lastLevel` in bit 9 down to `inMotion` in bit 0 (R217). -/
def State.statusWord (s : State) : Word :=
  (BitVec.ofBool s.lastLevel ++ s.pressClass.bits ++ s.sched.bits ++ BitVec.ofBool s.asleep ++
    BitVec.ofBool s.lockout ++ BitVec.ofBool s.halfBrightness ++ BitVec.ofBool s.depressed ++
    BitVec.ofBool s.inMotion).setWidth 32

/-- The result word of GEN_STEP: the brightness in `[15:0]`, the `on` report in bit 16 (R82, R106). -/
def stepWord (b : Half) (on : Bool) : Word := (BitVec.ofBool on ++ b).setWidth 32

/-- The result word of GEN_ISRUN: bit 0 (R82, R105). -/
def flagWord (b : Bool) : Word := (BitVec.ofBool b).setWidth 32

/-- The result word of ZONE_RUN: the brightness in `[15:0]` (R82, R133). -/
def levelWord (b : Half) : Word := b.setWidth 32

/-- The document's button states (R24). -/
inductive ButtonState where
  | idle
  | pressed
  | releasedShort
  | releasedLong
  deriving DecidableEq, Repr

/-- The button state is derived from `depressed` and `pressClass`, not stored (R24). -/
def State.buttonState (s : State) : ButtonState :=
  if s.depressed then .pressed
  else match s.pressClass with
    | .none => .idle
    | .short => .releasedShort
    | .long => .releasedLong
    | .three => .idle

/-- The two power states of R244. -/
inductive PowerState where
  | awake
  | asleep
  deriving DecidableEq, Repr

/-- The power state is `asleep` (R244). -/
def State.powerState (s : State) : PowerState := if s.asleep then .asleep else .awake

end Sys2Proof.Machine
end

