-- ==== Sys2Proof/Machine/Generators.lean ====
section
/-! DEFINITION. Machine/Generators.lean: the waveforms and GEN_START, GEN_STOP, GEN_ISRUN, GEN_STEP
(40_waveform_generators.md R100 to R111). -/

namespace Sys2Proof.Machine

/-! ## The waveforms, pure functions of the phase -/

/-- The Pulse's triangle over amplitude `a` and period `p` at phase `e`, `up = p div 2` (R101). -/
def pulseLevel (a p e : Nat) : Nat :=
  if e < p / 2 then a * e / (p / 2) else a * (p - e) / (p - p / 2)

/-- `R`, the length of the DoubleIndicator's rest phase (R102). -/
def doubleRest (p d1 gap d2 : Nat) : Nat := p - (d1 + gap + d2)

/-- Whether the DoubleIndicator is in ON1 or ON2 at phase `e` (R102). -/
def doubleOn (p d1 gap d2 e : Nat) : Bool :=
  let r := doubleRest p d1 gap d2
  (r ≤ e && e < r + d1) || (r + d1 + gap ≤ e && e < p)

/-- `wave(g, e)`: the brightness and the `on` report of a generator at phase `e` (R101, R102). -/
def wave (c : Config) (gc : GenCfg) (e : Nat) : Half × Bool :=
  match gc.kind with
  | .pulse =>
    let b := BitVec.ofNat 16 (pulseLevel c.maxLevel.toNat gc.period.toNat e)
    (b, b != 0)
  | .indicator on minB maxB =>
    let isOn := decide (e < on.toNat)
    (if isOn then maxB else minB, isOn)
  | .double d1 gap d2 minB maxB =>
    let isOn := doubleOn gc.period.toNat d1.toNat gap.toNat d2.toNat e
    (if isOn then maxB else minB, isOn)

/-- The phase a running generator is at: `acc`, reduced modulo `GP` (R262; in a reachable state it is below `GP`). -/
def phase (gc : GenCfg) (r : Gen) : Nat := r.acc.toNat % gc.period.toNat

/-- The stop-fade of a Pulse, `e` ms after `stop()` caught it at level `f` (R106). -/
def stopFade (a p f e : Nat) : Nat := f - a * e / (p - p / 2)

/-! ## The registers of one generator -/

/-- `start()` on one generator (R103). -/
def Gen.start (r : Gen) : Gen := { r with mode := .running, acc := 0 }

/-- `stop()` on one generator (R104). -/
def Gen.stop (c : Config) (gc : GenCfg) (r : Gen) : Gen :=
  match r.mode with
  | .running =>
    if gc.hold || gc.kind != .pulse then { r with mode := .stopped, acc := 0 }
    else
      let f := (wave c gc (phase gc r)).1
      if f = 0 then { r with mode := .stopped, acc := 0 }
      else { r with fadeFrom := f, mode := .stopping, acc := 0 }
  | .stopped => r
  | .stopping => r
  | .three => r

/-- The brightness and the `on` report of GEN_STEP (R106). -/
def Gen.output (c : Config) (gc : GenCfg) (r : Gen) : Half × Bool :=
  match r.mode with
  | .running => wave c gc (phase gc r)
  | .stopping =>
    (BitVec.ofNat 16 (stopFade c.maxLevel.toNat gc.period.toNat r.fadeFrom.toNat r.acc.toNat), false)
  | .stopped => (if gc.hold then r.last else 0, false)
  | .three => (if gc.hold then r.last else 0, false)

/-- The registers after GEN_STEP emitted `b`: a stop-fade that reached 0 settles, and `last` is `b` (R106). -/
def Gen.settle (r : Gen) (b : Half) : Gen :=
  match r.mode with
  | .stopping => if b = 0 then { r with mode := .stopped, acc := 0, last := b } else { r with last := b }
  | .running => { r with last := b }
  | .stopped => { r with last := b }
  | .three => { r with last := b }

/-- TICK on one generator: the phase advances modulo `GP` while RUNNING, saturates at 65535 while STOPPING (R210). -/
def Gen.tick (gc : GenCfg) (r : Gen) : Gen :=
  match r.mode with
  | .running => { r with acc := BitVec.ofNat 16 ((r.acc.toNat + 1) % gc.period.toNat) }
  | .stopping => { r with acc := BitVec.ofNat 16 (min (r.acc.toNat + 1) 65535) }
  | .stopped => r
  | .three => r

/-! ## The operations as parts of other operations -/

/-- `call GEN_START(g)`. -/
def State.genStart (s : State) (g : Nat) : State := s.setGen g (s.gen g).start

/-- `call GEN_STOP(g)`. -/
def State.genStop (s : State) (g : Nat) : State := s.setGen g ((s.gen g).stop s.cfg (s.cfg.genCfg g))

/-- What GEN_STEP of generator `g` emits in state `s`. -/
def State.genOutput (s : State) (g : Nat) : Half × Bool := (s.gen g).output s.cfg (s.cfg.genCfg g)

/-- `call GEN_STEP(g)`, without its result: the registers, then the commit to every bound zone (R106). -/
def State.genStep (s : State) (g : Nat) : State :=
  let b := (s.genOutput g).1
  (boundZones s.cfg g).foldl (fun t z => t.commit z b) (s.setGen g ((s.gen g).settle b))

/-! ## The meanings -/

/-- GEN_START (R103). -/
def execGenStart (idx : BitVec 8) (s : State) : Host.Outcome State Fault Refusal :=
  performGen idx s fun g t => t.genStart g

/-- GEN_STOP (R104). -/
def execGenStop (idx : BitVec 8) (s : State) : Host.Outcome State Fault Refusal :=
  performGen idx s fun g t => t.genStop g

/-- GEN_ISRUN (R105): 1 in mode RUNNING only. -/
def execGenIsrun (idx : BitVec 8) (s : State) : Host.Outcome State Fault Refusal :=
  performGen idx s fun g t => t.withResult (flagWord ((t.gen g).mode == .running))

/-- GEN_STEP (R106). -/
def execGenStep (idx : BitVec 8) (s : State) : Host.Outcome State Fault Refusal :=
  performGen idx s fun g t => (t.genStep g).withResult (stepWord (t.genOutput g).1 (t.genOutput g).2)

end Sys2Proof.Machine
end

