-- ==== Sys2Proof/Machine/Zones.lean ====
section
/-! DEFINITION. Machine/Zones.lean: the level function and ZONE_ON, ZONE_OFF, ZONE_RUN (41_led_zone.md R130 to R136). -/

namespace Sys2Proof.Machine

/-- `zone_level(z)` (R130): the linear interpolation from `from` to `target`, its progress truncated. -/
def Zone.level (r : Zone) : Half :=
  let f := r.fromLevel.toNat
  let t := r.target.toNat
  let d := r.dur.toNat
  let e := r.elapsed.toNat
  if d ≤ e then r.target
  else if f ≤ t then BitVec.ofNat 16 (f + (t - f) * e / d)
  else BitVec.ofNat 16 (f - (f - t) * e / d)

/-- ZONE_ON and ZONE_OFF on one zone, with `T` the new target: nothing when the zone is settled at `T`, else the fade
restarts from the present level (R131, R132). -/
def Zone.retarget (goal d : Half) (r : Zone) : Zone :=
  if r.level = goal ∧ r.target = goal then r
  else { cur := r.level, fromLevel := r.level, target := goal, dur := d, elapsed := 0 }

/-- TICK on one zone: `elapsed` advances until it reaches `dur` (R210). -/
def Zone.tick (r : Zone) : Zone :=
  if r.elapsed.toNat < r.dur.toNat then { r with elapsed := BitVec.ofNat 16 (r.elapsed.toNat + 1) } else r

/-! ## The operations as parts of other operations -/

/-- `call ZONE_ON(z, d)`: the target is MAX (R131). -/
def State.zoneOn (s : State) (z : Nat) (d : Half) : State :=
  s.setZone z ((s.zone z).retarget s.cfg.maxLevel d)

/-- `call ZONE_OFF(z, d)`: the target is 0 (R132). -/
def State.zoneOff (s : State) (z : Nat) (d : Half) : State :=
  s.setZone z ((s.zone z).retarget 0 d)

/-- `call ZONE_RUN(z)`, without its result: `cur` holds the level, and an ambient zone commits it (R133). -/
def State.zoneRun (s : State) (z : Nat) : State :=
  let lv := (s.zone z).level
  let t := s.setZone z { s.zone z with cur := lv }
  match (s.cfg.zoneCfg z).src with
  | .fade => t.commit z lv
  | .gen _ => t

/-! ## The meanings -/

/-- ZONE_ON (R131). -/
def execZoneOn (idx : BitVec 8) (imm : Half) (s : State) : Host.Outcome State Fault Refusal :=
  performZone idx s fun z t => t.zoneOn z imm

/-- ZONE_OFF (R132). -/
def execZoneOff (idx : BitVec 8) (imm : Half) (s : State) : Host.Outcome State Fault Refusal :=
  performZone idx s fun z t => t.zoneOff z imm

/-- ZONE_RUN (R133). -/
def execZoneRun (idx : BitVec 8) (s : State) : Host.Outcome State Fault Refusal :=
  performZone idx s fun z t => (t.zoneRun z).withResult (levelWord (t.zone z).level)

end Sys2Proof.Machine
end

