-- ==== Sys2Proof/Machine/Scheduler.lean ====
section
/-! DEFINITION. Machine/Scheduler.lean: SCHED_STEP (44_scheduler.md R180 to R190). -/

namespace Sys2Proof.Machine

/-- `for z with ZSRC[z] = FADE: call ZONE_ON(z, FADE_MS)` (R182). -/
def State.ambientOn (s : State) : State :=
  (ambientZones s.cfg).foldl (fun t z => t.zoneOn z t.cfg.fadeMs) s

/-- `for z with ZSRC[z] = FADE: call ZONE_OFF(z, FADE_MS)` (R184). -/
def State.ambientOff (s : State) : State :=
  (ambientZones s.cfg).foldl (fun t z => t.zoneOff z t.cfg.fadeMs) s

/-- `for g in 0 .. NG-1: call GEN_START(g)` (R182, R183). -/
def State.startAll (s : State) : State := (List.range s.cfg.ng).foldl (fun t g => t.genStart g) s

/-- `for g in 0 .. NG-1: call GEN_STOP(g)` (R184). -/
def State.stopAll (s : State) : State := (List.range s.cfg.ng).foldl (fun t g => t.genStop g) s

/-- Motion begins (R182): with `GATE = 0` the generators start now. -/
def State.motionBegins (s : State) : State :=
  let t := { s.ambientOn with fadeInTimer := s.cfg.fadeMs, sched := .fadingIn }
  if s.cfg.gate then t else t.startAll

/-- Fade-in complete (R183): with `GATE = 1` the generators start now. -/
def State.fadeInDone (s : State) : State :=
  let t := { s with sched := .steadyOn }
  if s.cfg.gate then t.startAll else t

/-- Motion ends (R184). -/
def State.motionEnds (s : State) : State :=
  { s.ambientOff.stopAll with fadeOutTimer := s.cfg.fadeMs, sched := .fadingOut }

/-- The `case` of SCHED_STEP (R181, R188): at most one transition. -/
def State.transition (s : State) : State :=
  match s.sched with
  | .idle => if s.inMotion then s.motionBegins else s
  | .fadingOut =>
    if s.inMotion then s.motionBegins
    else if s.fadeOutTimer = 0 then { s with sched := .idle } else s
  | .fadingIn =>
    if s.inMotion then (if s.fadeInTimer = 0 then s.fadeInDone else s) else s.motionEnds
  | .steadyOn => if s.inMotion then s else s.motionEnds

/-- No generator is in STOPPING (R187). -/
def State.noneStopping (s : State) : Bool :=
  (List.range s.cfg.ng).all fun g => (s.gen g).mode != .stopping

/-- The sleep condition (R187). -/
def State.sleepCondition (s : State) : Bool :=
  s.sched == .idle && !s.inMotion && !s.depressed && s.pressClass == .none && s.noneStopping

/-- The sleep request, evaluated on the state the transition has just written (R187). -/
def State.sleepRequest (s : State) : State :=
  if s.sleepCondition then { s with asleep := true } else s

/-- `call SCHED_STEP` (R181). -/
def State.schedStep (s : State) : State := s.transition.sleepRequest

/-- SCHED_STEP (R181). -/
def execSchedStep (s : State) : Host.Outcome State Fault Refusal :=
  perform s fun t => t.schedStep

end Sys2Proof.Machine
end

