-- ==== Sys2Proof/Machine/Events.lean ====
section
/-! DEFINITION. Machine/Events.lean: TICK, REFRESH, POLL, RESET, STATUS (45_top_level_events.md R210 to R219). -/

namespace Sys2Proof.Machine

/-- TICK after the wake (R210): every counter moves by one, and nothing else happens. -/
def State.tick (s : State) : State :=
  { s with
    now := s.now + 1
    motionTimer := dec s.motionTimer
    shortTimer := dec s.shortTimer
    longTimer := dec s.longTimer
    fadeInTimer := dec s.fadeInTimer
    fadeOutTimer := dec s.fadeOutTimer
    zones := s.zones.map Zone.tick
    gens := s.gens.mapIdx fun g r => r.tick (s.cfg.genCfg g) }

/-- REFRESH after the wake (R211): the whole frame is sent. -/
def State.refresh (s : State) : State := { s with frameOut := s.vector .frame, frameValid := true }

/-- `for z in 0 .. NZ-1: call ZONE_RUN(z)` (R214). -/
def State.runZones (s : State) : State := (List.range s.cfg.nz).foldl (fun t z => t.zoneRun z) s

/-- `for g in 0 .. NG-1: call GEN_STEP(g)` (R214). -/
def State.stepGens (s : State) : State := (List.range s.cfg.ng).foldl (fun t g => t.genStep g) s

/-- POLL (R214): nothing while `asleep` (R215); otherwise events, scheduler, zones, generators in that order. -/
def State.poll (s : State) : State :=
  if s.asleep then s else s.btnConsume.motionTick.schedStep.runZones.stepGens

/-- TICK (R210). -/
def execTick (s : State) : Host.Outcome State Fault Refusal :=
  perform s fun t => t.wake.tick

/-- REFRESH (R211). -/
def execRefresh (s : State) : Host.Outcome State Fault Refusal :=
  perform s fun t => t.wake.refresh

/-- POLL (R214). -/
def execPoll (s : State) : Host.Outcome State Fault Refusal :=
  perform s fun t => t.poll

/-- RESET (R216): the table of R45 under the configuration the state holds, whatever the state (R263). -/
def execReset (s : State) : Host.Outcome State Fault Refusal :=
  perform s fun t => State.resetOf t.cfg t.cmd

/-- STATUS (R217): the flag word, and nothing is written, `asleep` included. -/
def execStatus (s : State) : Host.Outcome State Fault Refusal :=
  perform s fun t => t.withResult t.statusWord

end Sys2Proof.Machine
end

