-- ==== Sys2Proof/Machine/Dispatch.lean ====
section
/-! DEFINITION. Machine/Dispatch.lean: the meaning of each operation. -/

namespace Sys2Proof.Machine

-- One arm for each constructor, in the order of spec/opcode_table.json.
def exec (i : Instr) (s : State) : Host.Outcome State Fault Refusal :=
  match i with
  | .tick => Sys2Proof.Machine.execTick s
  | .refresh => Sys2Proof.Machine.execRefresh s
  | .motionEdge => Sys2Proof.Machine.execMotionEdge s
  | .buttonEdge level => Sys2Proof.Machine.execButtonEdge level s
  | .poll => Sys2Proof.Machine.execPoll s
  | .reset => Sys2Proof.Machine.execReset s
  | .status => Sys2Proof.Machine.execStatus s
  | .genStart idx => Sys2Proof.Machine.execGenStart idx s
  | .genStop idx => Sys2Proof.Machine.execGenStop idx s
  | .genIsrun idx => Sys2Proof.Machine.execGenIsrun idx s
  | .genStep idx => Sys2Proof.Machine.execGenStep idx s
  | .zoneOn idx imm => Sys2Proof.Machine.execZoneOn idx imm s
  | .zoneOff idx imm => Sys2Proof.Machine.execZoneOff idx imm s
  | .zoneRun idx => Sys2Proof.Machine.execZoneRun idx s
  | .motionTick => Sys2Proof.Machine.execMotionTick s
  | .btnConsume => Sys2Proof.Machine.execBtnConsume s
  | .schedStep => Sys2Proof.Machine.execSchedStep s

end Sys2Proof.Machine
end

