-- ==== Sys2Proof/Machine/Step.lean ====
section
/-! DEFINITION. Machine/Step.lean: one step of LFCORE: the next operation word on `cmd` is decoded and performed
(00_scope.md R3, R13; 10_state.md R42; 30_encoding.md R84). -/

namespace Sys2Proof.Machine

/-- One step. An ill-formed configuration has no meaning (R8, log 7); with no word presented nothing is performed
(log 4); a word with no meaning is refused by the hardware, which goes on (R231, log 6). -/
def step (s : State) : Host.Outcome State Fault Refusal :=
  if s.cfg.wf then
    match s.cmd with
    | [] => .next s.idle
    | w :: rest =>
      match decode s.cfg.nz s.cfg.ng w with
      | .ok i => exec i { s with cmd := rest }
      | .error _ => .next (State.raiseRefused { s with cmd := rest })
  else .refused .illFormedConfig

/-- `s` with the operation whose low `nbits` bits are those of `w` as the next word the environment presents
(log 3). -/
def State.withFetchWord (s : State) (nbits w : Nat) : State := { s with cmd := tableWord nbits w :: s.cmd }

/-- A sequence of operations, each performed on the state the one before it left (R69), stopping where one stops. -/
def execList : List Instr → State → Host.Outcome State Fault Refusal
  | [], s => .next s
  | i :: is, s =>
    match exec i s with
    | .next t => execList is t
    | .fault r => .fault r
    | .refused r => .refused r

end Sys2Proof.Machine
end

