-- ==== Sys2Proof/Safety.lean ====
section
/-! DEFINITION. Safety.lean: the invariant of 10_state.md R44 and the terms in which claims speak of runs: the duties of
the environment (60_exceptions.md R246, R247), which LFCORE does not check and a claim names as premises. -/

namespace Sys2Proof.Machine

/-- The register files have the sizes the configuration gives them (R28, R29). -/
abbrev State.shaped (s : State) : Prop := s.zones.length = s.cfg.nz ∧ s.gens.length = s.cfg.ng

/-- R44 (ii) for one zone. -/
abbrev Zone.ok (c : Config) (r : Zone) : Prop :=
  r.elapsed.toNat ≤ r.dur.toNat ∧ (r.target = 0 ∨ r.target = c.maxLevel) ∧
  r.fromLevel.toNat ≤ c.maxLevel.toNat ∧ r.cur.toNat ≤ c.maxLevel.toNat

/-- R44 (iii) and (vi) for one generator. -/
abbrev Gen.ok (gc : GenCfg) (r : Gen) : Prop :=
  (r.mode = .running → r.acc.toNat < gc.period.toNat) ∧ (r.mode = .stopped → r.acc = 0) ∧
  (r.mode = .stopping → gc.kind = .pulse ∧ gc.hold = false ∧ r.fadeFrom ≠ 0) ∧ r.mode ≠ .three

/-- An address space is in canonical form and lists no channel beyond `N` (R60, R66). -/
abbrev State.spaceOk (s : State) (sp : Space) : Prop :=
  Memory.wf (unlisted s.cfg sp) (s.space sp) ∧ ∀ e ∈ s.space sp, e.1 < s.cfg.n

/-- The invariant of R44, with the sizes of the files and the form of the address spaces. -/
structure State.Inv (s : State) : Prop where
  shape : s.shaped
  frameForm : s.spaceOk .frame
  dcForm : s.spaceOk .dc
  /-- R44 (i) -/
  button : s.depressed = true ↔ s.lastLevel = s.cfg.closed
  /-- R44 (ii) -/
  zones : ∀ z < s.cfg.nz, Zone.ok s.cfg (s.zone z)
  /-- R44 (iii), (vi) -/
  gens : ∀ g < s.cfg.ng, Gen.ok (s.cfg.genCfg g) (s.gen g)
  /-- R44 (iv) -/
  frame : ∀ ch < s.cfg.n, (s.memRead .frame ch).toNat ≤ s.cfg.maxLevel.toNat
  /-- R44 (v) -/
  dc : ∀ ch < s.cfg.n, s.memRead .dc ch = if s.halfBrightness then s.cfg.dcHalfAt ch else s.cfg.dcFullAt ch
  /-- R44 (vi) -/
  press : s.pressClass ≠ .three
  /-- R44 (vii) -/
  lock : s.lockout = true → s.cfg.longLockout = true

/-! ## Settled, and the wave of a whole fade -/

/-- A zone whose level equals its target (00_scope.md, glossary). -/
def Zone.settled (r : Zone) : Bool := r.level = r.target

/-- A generator in mode STOPPED (00_scope.md, glossary). -/
def Gen.settled (r : Gen) : Bool := r.mode = .stopped

/-! ## Runs -/

/-- In the run of `ops` from `s`, no operation meets `bad` in the state in which it is performed. -/
def runAvoids (bad : Instr → State → Bool) : List Instr → State → Bool
  | [], _ => true
  | i :: is, s =>
    !bad i s &&
      match exec i s with
      | .next t => runAvoids bad is t
      | .fault _ => true
      | .refused _ => true

/-- The operation consumes a pending Long press (R163, R214). -/
def consumesLong (i : Instr) (s : State) : Bool :=
  match i with
  | .tick => false
  | .refresh => false
  | .motionEdge => false
  | .buttonEdge _ => false
  | .poll => !s.asleep && s.pressClass == .long
  | .reset => false
  | .status => false
  | .genStart _ => false
  | .genStop _ => false
  | .genIsrun _ => false
  | .genStep _ => false
  | .zoneOn _ _ => false
  | .zoneOff _ _ => false
  | .zoneRun _ => false
  | .motionTick => false
  | .btnConsume => s.pressClass == .long
  | .schedStep => false

/-- What ends the hold time that a motion edge started, other than time: another accepted edge, a Long press consumed,
RESET (R150, R165, R216). -/
def endsHold (i : Instr) (s : State) : Bool :=
  consumesLong i s || i == .reset || (i == .motionEdge && !s.lockout)

/-! ## The duties of the environment (R246, R247), named premises of claims; no step checks one

The duties relate what happens outside LFCORE to the operations presented, so they speak of a run with the outside
happenings in it. How each is read: log 15. -/

/-- The state after an operation, which always answers one (R230). -/
def afterOp (i : Instr) (s : State) : State :=
  match exec i s with
  | .next t => t
  | .fault _ => s
  | .refused _ => s

/-- What happens in a run: a happening outside LFCORE, or an operation performed. -/
inductive Occurrence where
  /-- a millisecond of the logical clock passes -/
  | millisecond
  /-- an edge interrupt of the motion pin -/
  | motionInterrupt
  /-- an interrupt of the button pin, with the level read in its handler -/
  | buttonInterrupt (level : Bool)
  /-- the sleep collaborator enters the low-power mode -/
  | lowPower
  /-- an operation is performed -/
  | performed (i : Instr)
  deriving DecidableEq, Repr

/-- The operations of a run, in order. -/
def operations : List Occurrence → List Instr
  | [] => []
  | .millisecond :: os => operations os
  | .motionInterrupt :: os => operations os
  | .buttonInterrupt _ :: os => operations os
  | .lowPower :: os => operations os
  | .performed i :: os => i :: operations os

/-- R246 (i): one TICK for each millisecond, never more, and never fewer while awake. `due` says that the last
millisecond has had no TICK yet, `must` that it passed while awake, so that it has to have one. -/
def ticksKeepTime (due must : Bool) : List Occurrence → State → Bool
  | [], _ => !must
  | .millisecond :: os, s => !must && ticksKeepTime true (!s.asleep) os s
  | .motionInterrupt :: os, s => ticksKeepTime due must os s
  | .buttonInterrupt _ :: os, s => ticksKeepTime due must os s
  | .lowPower :: os, s => ticksKeepTime due must os s
  | .performed i :: os, s =>
    if i = .tick then due && ticksKeepTime false false os (afterOp i s)
    else ticksKeepTime due must os (afterOp i s)

/-- R246 (ii): at least one POLL between any two consecutive TICKs while awake. `owed` says that the last TICK has had no
POLL yet and that the block has been awake since. -/
def pollsKeepUp (owed : Bool) : List Instr → State → Bool
  | [], _ => true
  | i :: is, s =>
    let t := afterOp i s
    if i = .tick then !owed && pollsKeepUp true is t
    else if i = .poll then pollsKeepUp false is t
    else pollsKeepUp (owed && !t.asleep) is t

/-- R246 (iii): one BUTTON_EDGE for each button-pin interrupt, with the level read in that handler, and one MOTION_EDGE
for each motion-pin edge interrupt. `motion` counts the motion interrupts and `levels` lists the levels of the button
interrupts that have had no operation yet, the oldest first. -/
def edgesFollowPins (motion : Nat) (levels : List Bool) : List Occurrence → Bool
  | [] => motion == 0 && levels.isEmpty
  | .millisecond :: os => edgesFollowPins motion levels os
  | .motionInterrupt :: os => edgesFollowPins (motion + 1) levels os
  | .buttonInterrupt level :: os => edgesFollowPins motion (levels ++ [level]) os
  | .lowPower :: os => edgesFollowPins motion levels os
  | .performed i :: os =>
    if i = .motionEdge then decide (0 < motion) && edgesFollowPins (motion - 1) levels os
    else if i = .buttonEdge true ∨ i = .buttonEdge false then
      levels.head?.map Instr.buttonEdge == some i && edgesFollowPins motion levels.tail os
    else edgesFollowPins motion levels os

/-- R246 (iv): RESET before anything else. -/
def startsWithReset (ops : List Instr) : Bool := ops.head? == some .reset

/-- R246, the four duties of the collaborator that issues operations. -/
def dutiesMet (os : List Occurrence) (s : State) : Bool :=
  ticksKeepTime false false os s && pollsKeepUp false (operations os) s && edgesFollowPins 0 [] os &&
    startsWithReset (operations os)

/-- The frame sink of R242 as the sleep collaborator knows it from a run (R247). -/
structure FrameSink where
  /-- the frame of the last REFRESH, the one operation that pulses `frame_valid`; `none` before the first: what the sink
  then holds is not known, and RESET sends it nothing (R45) -/
  held : Option (List Half)
  /-- a POLL that did work has occurred since the last REFRESH, other than the one POLL right behind it -/
  stale : Bool
  /-- no POLL that did work and no TICK has occurred since the last REFRESH -/
  fresh : Bool
  deriving DecidableEq, Repr

/-- The frame sink before the run: nothing sent. -/
def FrameSink.unknown : FrameSink := ⟨none, false, false⟩

/-- The frame sink after operation `i` is performed in `s`. The POLL behind a REFRESH with no TICK between changes no FRAME
entry and calls for no further REFRESH; every other POLL that did work does (R247). -/
def FrameSink.after (k : FrameSink) (i : Instr) (s : State) : FrameSink :=
  if i = .refresh then ⟨some (s.vector .frame), false, true⟩
  else if i = .poll ∧ s.asleep = false then ⟨k.held, k.stale || !k.fresh, false⟩
  else if i = .tick then ⟨k.held, k.stale, false⟩
  else k

/-- R247: the low-power mode is entered only while LFCORE asks to sleep, with the present FRAME sent to the frame sink by a
REFRESH and no POLL since that calls for one more. -/
def sleepsWithFrameSent (k : FrameSink) : List Occurrence → State → Bool
  | [], _ => true
  | .millisecond :: os, s => sleepsWithFrameSent k os s
  | .motionInterrupt :: os, s => sleepsWithFrameSent k os s
  | .buttonInterrupt _ :: os, s => sleepsWithFrameSent k os s
  | .lowPower :: os, s =>
    s.asleep && k.held == some (s.vector .frame) && !k.stale && sleepsWithFrameSent k os s
  | .performed i :: os, s => sleepsWithFrameSent (k.after i s) os (afterOp i s)

end Sys2Proof.Machine
end

