-- ==== Sys2Proof/Certificates/Slice0/Obligations.lean ====
section
/-! DEFINITION. Certificates/Slice0/Obligations.lean: the statements for the provers, from the numbered rules of spec/.

A frame is said by an equation `t = { s with f := t.f, … }`: every field of the state that is not named, the
configuration and every byte of both address spaces among them, is unchanged. A performed operation pulses no strobe
but its own and drives `result` 0 unless it has a result (R82, R43), so the four port fields stand in every frame. -/

open Sys2Proof Sys2Proof.Machine

/-! ## Encoding and decoding -/

/-- R80, R81, R83: the decoder reads back every operation in range from its word, every operand included. -/
def Obligations.DecodeReadsBackEncode : Prop :=
  ∀ (nz ng : Nat) (i : Instr), i.wf nz ng = true → decode nz ng (encode i) = .ok i

/-- R80, R83, R84: a word that is an operation is the word of that operation and of no other, and its index is in range. -/
def Obligations.EncodeReadsBackDecode : Prop :=
  ∀ (nz ng : Nat) (w : Word) (i : Instr), decode nz ng w = .ok i → encode i = w ∧ i.wf nz ng = true

/-- R83: a word is the operation of a row exactly when it agrees with the row's match under the row's mask and its index
is in range; its operands are the fields of R81. -/
def Obligations.WordIsOperationOfItsRow : Prop :=
  ∀ (nz ng : Nat) (w : Word) (i : Instr),
    decode nz ng w = .ok i ↔
      (w &&& i.maskWord = i.matchWord ∧ i.operandsOf w = true ∧ i.wf nz ng = true)

/-- R84, R231: which words are refused, and for which reason, the first in the order BadOpcode, ReservedField, BadIndex. -/
def Obligations.RefusalReasonsInOrder : Prop :=
  ∀ (nz ng : Nat) (w : Word),
    let op := (w.extractLsb' 24 8).toNat
    let idx := (w.extractLsb' 16 8).toNat
    let low := (w.extractLsb' 0 16).toNat
    let formatE := op ∈ [0x01, 0x02, 0x03, 0x05, 0x06, 0x07, 0x30, 0x40, 0x50]
    let formatIGen := op ∈ [0x10, 0x11, 0x12, 0x13]
    let formatD := op ∈ [0x20, 0x21]
    let assigned := formatE ∨ op = 0x04 ∨ formatIGen ∨ formatD ∨ op = 0x22
    let reserved := (formatE ∧ (idx ≠ 0 ∨ low ≠ 0)) ∨ (op = 0x04 ∧ (idx ≠ 0 ∨ 1 < low)) ∨
      ((formatIGen ∨ op = 0x22) ∧ low ≠ 0)
    let outOfRange := (formatIGen ∧ ng ≤ idx) ∨ ((formatD ∨ op = 0x22) ∧ nz ≤ idx)
    (decode nz ng w = .error .badOpcode ↔ ¬assigned) ∧
    (decode nz ng w = .error .reservedField ↔ reserved) ∧
    (decode nz ng w = .error .badIndex ↔ (¬reserved ∧ outOfRange)) ∧
    decode nz ng w ≠ .error .truncated

/-- R88: the worked encodings, under NG = 3 and NZ = 4 of CFG-T. -/
def Obligations.WorkedEncodingsDecode : Prop :=
  encode .tick = 0x01000000 ∧ encode .poll = 0x05000000 ∧ encode (.genStart 2) = 0x10020000 ∧
  encode (.genStep 2) = 0x13020000 ∧ encode (.zoneOn 0 500) = 0x200001F4 ∧ encode (.zoneOff 3 0) = 0x21030000 ∧
  encode (.zoneRun 0) = 0x22000000 ∧
  decode 4 3 0x01000000 = .ok .tick ∧ decode 4 3 0x05000000 = .ok .poll ∧
  decode 4 3 0x10020000 = .ok (.genStart 2) ∧ decode 4 3 0x13020000 = .ok (.genStep 2) ∧
  decode 4 3 0x200001F4 = .ok (.zoneOn 0 500) ∧ decode 4 3 0x21030000 = .ok (.zoneOff 3 0) ∧
  decode 4 3 0x22000000 = .ok (.zoneRun 0) ∧
  decode 4 3 0x00000000 = .error .badOpcode ∧ decode 4 3 0x01000001 = .error .reservedField ∧
  decode 4 3 0x08000000 = .error .badOpcode ∧ decode 4 3 0x10030000 = .error .badIndex

/-! ## The step -/

/-- R3, R13, R42: a step performs the operation the presented word decodes to, and takes the word off `cmd` (how words
are presented is the model's own, log 3). -/
def Obligations.StepPerformsTheDecodedOperation : Prop :=
  ∀ (s : State) (w : Word) (rest : List Word) (i : Instr),
    s.cfg.wf → s.cmd = w :: rest → decode s.cfg.nz s.cfg.ng w = .ok i → step s = exec i { s with cmd := rest }

/-- R84, R231: a refused word changes nothing but `result` and `cmd_err`, `asleep` included, and the next word follows.
(That the two other strobes are low in this step is log 5.) -/
def Obligations.RefusedWordChangesOnlyItsPorts : Prop :=
  ∀ (s : State) (w : Word) (rest : List Word) (r : DecodeRefusal),
    s.cfg.wf → s.cmd = w :: rest → decode s.cfg.nz s.cfg.ng w = .error r →
    step s = .next { s with cmd := rest, result := 0, cmdErr := true, frameValid := false, dcWrite := false }

/-- R8: an ill-formed configuration is refused. -/
def Obligations.IllFormedConfigurationIsRefused : Prop :=
  ∀ s : State, ¬s.cfg.wf → step s = .refused .illFormedConfig

/-- The model's choice (log 4; the spec speaks only of steps that perform an operation): with no word presented the
strobes fall and nothing else changes. -/
def Obligations.StepWithoutWordKeepsEverything : Prop :=
  ∀ s : State, s.cfg.wf → s.cmd = [] →
    step s = .next { s with cmdErr := false, frameValid := false, dcWrite := false }

/-- R230, R109, R136, R153, R167, R190, R219: every operation is total, and so is every step under a well-formed
configuration: the one that performs an operation, the one whose word is refused (R231), and, by the model's own choice
(log 4), the one with no word presented. -/
def Obligations.EveryOperationAndStepCompletes : Prop :=
  (∀ (i : Instr) (s : State), ∃ t, exec i s = .next t) ∧ ∀ s : State, s.cfg.wf → ∃ t, step s = .next t

/-- R69: a stream of words that encode operations in range (R80, R83) runs as those operations, one after the other, one
word a step (R42). That the words still to be presented stand in `State.cmd` and that a step takes the first of them is
the model's own choice (log 3). -/
def Obligations.EncodedStreamRunsAsItsOperations : Prop :=
  ∀ (ops : List Instr) (rest : List Word) (s : State), s.cfg.wf → (∀ i ∈ ops, i.wf s.cfg.nz s.cfg.ng = true) →
    s.cmd = ops.map encode ++ rest →
    ∃ t, execList ops { s with cmd := rest } = .next t ∧ Host.Core.run Sys2Proof.core ops.length s = .next t

/-- R84, R231: an operation whose index is out of range is refused: the seven indexed operations. (That the strobes
`frame_valid` and `dc_write` are low in a refused step is the model's reading, log 5.) -/
def Obligations.OutOfRangeIndexIsRefused : Prop :=
  ∀ (s : State) (idx : BitVec 8) (imm : Half),
    let refused : State := { s with result := 0, cmdErr := true, frameValid := false, dcWrite := false }
    (s.cfg.ng ≤ idx.toNat →
      exec (.genStart idx) s = .next refused ∧ exec (.genStop idx) s = .next refused ∧
      exec (.genIsrun idx) s = .next refused ∧ exec (.genStep idx) s = .next refused) ∧
    (s.cfg.nz ≤ idx.toNat →
      exec (.zoneOn idx imm) s = .next refused ∧ exec (.zoneOff idx imm) s = .next refused ∧
      exec (.zoneRun idx) s = .next refused)

/-! ## Invariants -/

/-- R6, R41, R73: no step changes the configuration. -/
def Obligations.StepKeepsConfiguration : Prop :=
  ∀ s t : State, step s = .next t → t.cfg = s.cfg

/-- R44: every step keeps the invariant, from every state that has it. -/
def Obligations.StepKeepsInvariant : Prop :=
  ∀ s t : State, s.cfg.wf → s.Inv → step s = .next t → t.Inv

/-- R44, R45: the invariant holds after RESET under every well-formed configuration. -/
def Obligations.InvariantHoldsAfterReset : Prop :=
  State.reset.Inv ∧ ∀ (c : Config) (input : List Word), c.wf → (State.resetOf c input).Inv

/-- R60, R66, R28, R29: every step keeps both address spaces within N and the register files at NZ and NG. That a space is
a list in canonical form (channels rising, no entry at its reset contents) is the model's own choice (log 9); every step
keeps that form too. -/
def Obligations.StepKeepsMemoryFormAndFileSizes : Prop :=
  ∀ s t : State, s.cfg.wf → s.spaceOk .frame → s.spaceOk .dc → s.shaped → step s = .next t →
    t.spaceOk .frame ∧ t.spaceOk .dc ∧ t.shaped

/-! ## Top-level events -/

/-- R210: TICK wakes, advances `now`, moves each of the five timers down, each `elapsed` up to `dur`, each running phase
modulo `GP` and each stop-fade count up to 65535, and writes nothing else. -/
def Obligations.TickMovesEveryCounterByOne : Prop :=
  ∀ s : State, s.cfg.wf → s.shaped → ∃ t, exec .tick s = .next t ∧
    t = { s with
      asleep := false, now := t.now, motionTimer := t.motionTimer, shortTimer := t.shortTimer,
      longTimer := t.longTimer, fadeInTimer := t.fadeInTimer, fadeOutTimer := t.fadeOutTimer, zones := t.zones,
      gens := t.gens, result := 0, cmdErr := false, frameValid := false, dcWrite := false } ∧
    t.now.toNat = (s.now.toNat + 1) % 2 ^ 32 ∧
    t.motionTimer.toNat = s.motionTimer.toNat - 1 ∧ t.shortTimer.toNat = s.shortTimer.toNat - 1 ∧
    t.longTimer.toNat = s.longTimer.toNat - 1 ∧ t.fadeInTimer.toNat = s.fadeInTimer.toNat - 1 ∧
    t.fadeOutTimer.toNat = s.fadeOutTimer.toNat - 1 ∧ t.shaped ∧
    (∀ z < s.cfg.nz, t.zone z = { s.zone z with elapsed := (t.zone z).elapsed } ∧
      (t.zone z).elapsed.toNat =
        if (s.zone z).elapsed.toNat < (s.zone z).dur.toNat then (s.zone z).elapsed.toNat + 1
        else (s.zone z).elapsed.toNat) ∧
    (∀ g < s.cfg.ng, t.gen g = { s.gen g with acc := (t.gen g).acc } ∧
      (t.gen g).acc.toNat =
        match (s.gen g).mode with
        | .running => ((s.gen g).acc.toNat + 1) % (s.cfg.genCfg g).period.toNat
        | .stopping => min ((s.gen g).acc.toNat + 1) 65535
        | .stopped => (s.gen g).acc.toNat
        | .three => (s.gen g).acc.toNat)

/-- R211: REFRESH wakes and sends the whole frame, channel 0 first, and changes no register but `asleep`. -/
def Obligations.RefreshSendsTheWholeFrame : Prop :=
  ∀ s : State, ∃ t, exec .refresh s = .next t ∧
    t = { s with
      asleep := false, frameOut := t.frameOut, frameValid := true, result := 0, cmdErr := false, dcWrite := false } ∧
    t.frameOut.length = s.cfg.n ∧ ∀ ch < s.cfg.n, t.frameOut[ch]? = some (s.memRead .frame ch)

/-- R215: a POLL while asleep does nothing. -/
def Obligations.PollWhileAsleepDoesNothing : Prop :=
  ∀ s : State, s.asleep = true →
    exec .poll s = .next { s with result := 0, cmdErr := false, frameValid := false, dcWrite := false }

/-- R214: a POLL while awake is its component operations one after the other, their results discarded: BTN_CONSUME,
MOTION_TICK, SCHED_STEP, ZONE_RUN of every zone, GEN_STEP of every generator; `dc_write` is pulsed when a Short press
was consumed. -/
def Obligations.PollIsItsComponentsInOrder : Prop :=
  ∀ s : State, s.cfg.wf → s.asleep = false → ∃ t u,
    exec .poll s = .next t ∧
    execList ([.btnConsume, .motionTick, .schedStep] ++
      (List.range s.cfg.nz).map (fun z => .zoneRun (BitVec.ofNat 8 z)) ++
      (List.range s.cfg.ng).map (fun g => .genStep (BitVec.ofNat 8 g))) s = .next u ∧
    t = { u with result := 0, cmdErr := false, frameValid := false, dcWrite := s.pressClass == .short }

/-- R214, R68: after a POLL while awake FRAME holds the composed frame: an ambient zone's channels carry its level, a
generator-bound zone's channels the value its generator emitted, each clamped to MAX; a channel of no zone is
unchanged. -/
def Obligations.PollComposesTheFrame : Prop :=
  ∀ s : State, s.cfg.wf → s.shaped → s.spaceOk .frame → s.asleep = false → ∃ t, exec .poll s = .next t ∧
    (∀ z < s.cfg.nz, (t.zone z).cur = (t.zone z).level ∧ ∀ ch ∈ (s.cfg.zoneCfg z).channels,
      (t.memRead .frame ch).toNat =
        match (s.cfg.zoneCfg z).src with
        | .fade => min (t.zone z).level.toNat s.cfg.maxLevel.toNat
        | .gen g => min (t.gen g).last.toNat s.cfg.maxLevel.toNat) ∧
    (∀ ch, (∀ z < s.cfg.nz, ch ∉ (s.cfg.zoneCfg z).channels) → t.memRead .frame ch = s.memRead .frame ch)

/-- R45, R216, R263: RESET loads the table of R45, whatever the state, keeps the configuration, and presents DC_FULL. -/
def Obligations.ResetLoadsTheResetTable : Prop :=
  ∀ s : State, ∃ t, exec .reset s = .next t ∧ t.cfg = s.cfg ∧ t.cmd = s.cmd ∧
    t.now = 0 ∧ t.inMotion = false ∧ t.motionTimer = 0 ∧ t.lastLevel = (!s.cfg.closed) ∧ t.depressed = false ∧
    t.shortTimer = 0 ∧ t.longTimer = 0 ∧ t.pressClass = .none ∧ t.halfBrightness = false ∧ t.lockout = false ∧
    t.sched = .idle ∧ t.fadeInTimer = 0 ∧ t.fadeOutTimer = 0 ∧ t.asleep = false ∧ t.shaped ∧
    (∀ z, t.zone z = ⟨0, 0, 0, 0, 0⟩) ∧ (∀ g, t.gen g = ⟨.stopped, 0, 0, 0⟩) ∧
    (∀ ch, t.memRead .frame ch = 0) ∧ (∀ ch, t.memRead .dc ch = s.cfg.dcFullAt ch) ∧
    t.frameOut = List.replicate s.cfg.n 0 ∧ t.frameValid = false ∧
    t.dcOut = (List.range s.cfg.n).map s.cfg.dcFullAt ∧ t.dcWrite = true ∧ t.result = 0 ∧ t.cmdErr = false

/-- R265: the first POLL after RESET asks to sleep, and leaves the frame dark; under CFG-T a STATUS then reads 0x210. -/
def Obligations.FreshResetAsksToSleep : Prop :=
  (∀ (c : Config) (input : List Word), c.wf → ∃ t, exec .poll (State.resetOf c input) = .next t ∧
    t.asleep = true ∧ t.sched = .idle ∧ ∀ ch, t.memRead .frame ch = 0) ∧
  (∀ s : State, s.cfg = Config.cfgT → ∃ t, execList [.reset, .poll, .status] s = .next t ∧ t.result = 0x210)

/-- R217: STATUS drives the flag word and writes nothing, `asleep` included. -/
def Obligations.StatusReadsTheFlags : Prop :=
  ∀ s : State, ∃ t, exec .status s = .next t ∧
    t = { s with result := t.result, cmdErr := false, frameValid := false, dcWrite := false } ∧
    t.result.getLsbD 0 = s.inMotion ∧ t.result.getLsbD 1 = s.depressed ∧ t.result.getLsbD 2 = s.halfBrightness ∧
    t.result.getLsbD 3 = s.lockout ∧ t.result.getLsbD 4 = s.asleep ∧
    (t.result.extractLsb' 5 2).toNat =
      (match s.sched with | .idle => 0 | .fadingIn => 1 | .steadyOn => 2 | .fadingOut => 3) ∧
    (t.result.extractLsb' 7 2).toNat =
      (match s.pressClass with | .none => 0 | .short => 1 | .long => 2 | .three => 3) ∧
    t.result.getLsbD 9 = s.lastLevel ∧ t.result.extractLsb' 10 22 = 0

/-! ## Motion debounce -/

/-- R150: a motion edge wakes; unless locked out it loads the hold time and sets `inMotion`, and writes nothing else. -/
def Obligations.MotionEdgeRestartsTheHoldTime : Prop :=
  ∀ s : State,
    (s.lockout = false → exec .motionEdge s = .next { s with
      asleep := false, motionTimer := s.cfg.holdMs, inMotion := true,
      result := 0, cmdErr := false, frameValid := false, dcWrite := false }) ∧
    (s.lockout = true → exec .motionEdge s = .next { s with
      asleep := false, result := 0, cmdErr := false, frameValid := false, dcWrite := false })

/-- R151: MOTION_TICK clears `inMotion` when the timer has run out, and writes nothing else. -/
def Obligations.MotionTickClearsOnExpiry : Prop :=
  ∀ s : State, exec .motionTick s = .next { s with
    inMotion := s.inMotion && s.motionTimer != 0,
    result := 0, cmdErr := false, frameValid := false, dcWrite := false }

/-- R152: the monostable law. After a motion edge accepted with `lockout = 0`, in every run in which no further edge is
accepted, no Long press is consumed and no RESET occurs, `motionTimer` is the hold time less the TICKs of the run, and
a MOTION_TICK then clears `inMotion` exactly when the TICKs are at least the hold time. -/
def Obligations.MonostableLaw : Prop :=
  ∀ (s e : State) (ops : List Instr),
    s.lockout = false → exec .motionEdge s = .next e → runAvoids endsHold ops e = true →
    ∃ t u, execList ops e = .next t ∧ exec .motionTick t = .next u ∧
      t.motionTimer.toNat = s.cfg.holdMs.toNat - ops.count .tick ∧
      (u.inMotion = false ↔ s.cfg.holdMs.toNat ≤ ops.count .tick)

/-- R270: with atomic operations the two orders of MOTION_TICK and MOTION_EDGE end in one state, in which the edge is
not lost. -/
def Obligations.MotionTickAndEdgeEndInOneState : Prop :=
  ∀ s : State, s.lockout = false → s.cfg.holdMs ≠ 0 → ∃ t,
    execList [.motionTick, .motionEdge] s = .next t ∧ execList [.motionEdge, .motionTick] s = .next t ∧
    t.inMotion = true ∧ t.motionTimer = s.cfg.holdMs

/-- R165, R150: once locked out with the light's motion flag off, every run without a Long press consumed and without
RESET keeps the lock-out and keeps `inMotion` off, motion edges included. -/
def Obligations.LockoutSuppressesMotionUntilLongPress : Prop :=
  ∀ (s : State) (ops : List Instr), s.lockout = true → s.inMotion = false →
    runAvoids (fun i u => consumesLong i u || i == .reset) ops s = true →
    ∃ t, execList ops s = .next t ∧ t.lockout = true ∧ t.inMotion = false

/-! ## Button classifier -/

/-- R160, R161: BUTTON_EDGE wakes; a level already seen does nothing more; a press edge arms both timers; a release edge
of a pressed button stores the class of `classify()` when it is not None; a release of an unpressed one only records the
level. Nothing else is written. -/
def Obligations.ButtonEdgeClassifiesARelease : Prop :=
  ∀ (s : State) (level : Bool),
    let woken : State := { s with
      asleep := false, result := 0, cmdErr := false, frameValid := false, dcWrite := false }
    (level = s.lastLevel → exec (.buttonEdge level) s = .next woken) ∧
    (level ≠ s.lastLevel → level = s.cfg.closed →
      exec (.buttonEdge level) s = .next { woken with
        lastLevel := level, depressed := true, shortTimer := s.cfg.shortMs, longTimer := s.cfg.longMs }) ∧
    (level ≠ s.lastLevel → level ≠ s.cfg.closed → s.depressed = true →
      exec (.buttonEdge level) s = .next { woken with
        lastLevel := level, depressed := false,
        pressClass :=
          if s.longTimer.toNat = 0 then .long else if s.shortTimer.toNat = 0 then .short else s.pressClass }) ∧
    (level ≠ s.lastLevel → level ≠ s.cfg.closed → s.depressed = false →
      exec (.buttonEdge level) s = .next { woken with lastLevel := level })

/-- R162, R166: a press held for `k` TICKs, whatever other operations but button edges and RESET fall between, is Long
from LONG_MS on, Short from SHORT_MS to below LONG_MS, and below SHORT_MS stores nothing. -/
def Obligations.PressClassFollowsItsDuration : Prop :=
  ∀ (s : State) (ops : List Instr), s.lastLevel = (!s.cfg.closed) →
    (∀ i ∈ ops, i ≠ .reset ∧ ∀ level, i ≠ .buttonEdge level) →
    ∃ u t, execList (pseudoPress s.cfg :: ops) s = .next u ∧ exec (pseudoRelease s.cfg) u = .next t ∧
      t.depressed = false ∧
      t.shortTimer.toNat = s.cfg.shortMs.toNat - ops.count .tick ∧
      t.longTimer.toNat = s.cfg.longMs.toNat - ops.count .tick ∧
      (s.cfg.longMs.toNat ≤ ops.count .tick → t.pressClass = .long) ∧
      (s.cfg.shortMs.toNat ≤ ops.count .tick → ops.count .tick < s.cfg.longMs.toNat → t.pressClass = .short) ∧
      (ops.count .tick < s.cfg.shortMs.toNat → ops.count .tick < s.cfg.longMs.toNat → t.pressClass = u.pressClass)

/-- R163, R165: BTN_CONSUME clears the pending class; with none pending (and with the pattern 3) it does nothing more; a
Long press forces motion off and toggles the lock-out when the configuration has one. -/
def Obligations.ConsumeNoneOrLong : Prop :=
  ∀ s : State,
    let cleared : State := { s with
      pressClass := .none, result := 0, cmdErr := false, frameValid := false, dcWrite := false }
    (s.pressClass = .none ∨ s.pressClass = .three → exec .btnConsume s = .next cleared) ∧
    (s.pressClass = .long → exec .btnConsume s = .next { cleared with
      inMotion := false, motionTimer := 0, lockout := s.lockout != s.cfg.longLockout })

/-- R163, R164: a Short press toggles the brightness mode, rewrites the whole of DC from the table of the new mode,
presents it with one `dc_write`, and changes nothing else. -/
def Obligations.ConsumeShortRewritesDotCorrection : Prop :=
  ∀ s : State, s.pressClass = .short → s.spaceOk .dc → ∃ t, exec .btnConsume s = .next t ∧
    t = { s with
      pressClass := .none, halfBrightness := !s.halfBrightness, dc := t.dc, dcOut := t.dcOut, dcWrite := true,
      result := 0, cmdErr := false, frameValid := false } ∧
    (∀ ch < s.cfg.n, t.memRead .dc ch = if s.halfBrightness then s.cfg.dcFullAt ch else s.cfg.dcHalfAt ch) ∧
    (∀ ch, s.cfg.n ≤ ch → t.memRead .dc ch = s.memRead .dc ch) ∧
    t.dcOut.length = s.cfg.n ∧ ∀ ch < s.cfg.n, t.dcOut[ch]? = some (t.memRead .dc ch)

/-! ## Waveform generators -/

/-- R101: the Pulse's wave over one period: the two ramps with their floor rounding, the `on` report, 0 at phase 0, the
amplitude MAX at `up = P div 2` and at no other phase, non-decreasing up to `up` and non-increasing from there. -/
def Obligations.PulseIsATriangle : Prop :=
  ∀ (c : Config) (gc : GenCfg), gc.kind = .pulse → gc.wf = true → 1 ≤ c.maxLevel.toNat →
    let p := gc.period.toNat
    let up := p / 2
    let a := c.maxLevel.toNat
    let b (e : Nat) : Nat := (wave c gc e).1.toNat
    (∀ e < p, b e = if e < up then a * e / up else a * (p - e) / (p - up)) ∧
    (∀ e < p, (wave c gc e).2 = true ↔ b e ≠ 0) ∧ b 0 = 0 ∧ (∀ e < p, b e = a ↔ e = up) ∧
    (∀ e e', e ≤ e' → e' ≤ up → b e ≤ b e') ∧ (∀ e e', up ≤ e → e ≤ e' → e' < p → b e' ≤ b e)

/-- R102: an Indicator is on, at GMAX, in `[0, GON)`, and off, at GMIN, for the remainder. -/
def Obligations.IndicatorIsOnFirst : Prop :=
  ∀ (c : Config) (gc : GenCfg) (on minB maxB : Half), gc.kind = .indicator on minB maxB → gc.wf = true →
    (∀ e < gc.period.toNat, wave c gc e = if e < on.toNat then (maxB, true) else (minB, false)) ∧
    ((List.range gc.period.toNat).filter fun e => (wave c gc e).2).length = on.toNat

/-- R102, R108: over one period a DoubleIndicator is on, at GMAX, in exactly the two disjoint intervals `[R, R + GD1)` and
`[GP - GD2, GP)`, in all `GD1 + GD2` phases, and off, at GMIN, at every other phase, phase 0 among them. -/
def Obligations.DoubleIndicatorIsOnInTwoIntervals : Prop :=
  ∀ (c : Config) (gc : GenCfg) (d1 gap d2 minB maxB : Half), gc.kind = .double d1 gap d2 minB maxB → gc.wf = true →
    let p := gc.period.toNat
    let r := p - (d1.toNat + gap.toNat + d2.toNat)
    r + d1.toNat ≤ p - d2.toNat ∧
    (∀ e < p, wave c gc e =
      if (r ≤ e ∧ e < r + d1.toNat) ∨ p - d2.toNat ≤ e then (maxB, true) else (minB, false)) ∧
    wave c gc 0 = (minB, false) ∧
    ((List.range p).filter fun e => (wave c gc e).2).length = d1.toNat + d2.toNat

/-- R103: GEN_START sets mode RUNNING and phase 0, leaves `last` and `fadeFrom`, and writes nothing else. -/
def Obligations.GenStartRestartsThePhase : Prop :=
  ∀ (s : State) (idx : BitVec 8), s.shaped → idx.toNat < s.cfg.ng → ∃ t, exec (.genStart idx) s = .next t ∧
    t = { s with gens := t.gens, result := 0, cmdErr := false, frameValid := false, dcWrite := false } ∧
    t.gens.length = s.gens.length ∧
    t.gen idx.toNat = { s.gen idx.toNat with mode := .running, acc := 0 } ∧
    ∀ y, y ≠ idx.toNat → t.gen y = s.gen y

/-- R104: GEN_STOP on a running generator: one that holds or is no Pulse stops at once; a Pulse keeps the wave's value at
its phase (reduced modulo GP, R262) in `fadeFrom` and fades, or stops at once where that value is 0. No other generator
and nothing else is written. -/
def Obligations.GenStopStopsOrFades : Prop :=
  ∀ (s : State) (idx : BitVec 8), s.cfg.wf → s.shaped → idx.toNat < s.cfg.ng → (s.gen idx.toNat).mode = .running →
    let g := idx.toNat
    let gc := s.cfg.genCfg g
    let f := pulseLevel s.cfg.maxLevel.toNat gc.period.toNat ((s.gen g).acc.toNat % gc.period.toNat)
    ∃ t, exec (.genStop idx) s = .next t ∧
      t = { s with gens := t.gens, result := 0, cmdErr := false, frameValid := false, dcWrite := false } ∧
      t.gens.length = s.gens.length ∧ (∀ y, y ≠ g → t.gen y = s.gen y) ∧
      (gc.hold = true ∨ gc.kind ≠ .pulse ∨ f = 0 → t.gen g = { s.gen g with mode := .stopped, acc := 0 }) ∧
      (gc.hold = false → gc.kind = .pulse → 0 < f →
        t.gen g = { s.gen g with mode := .stopping, acc := 0, fadeFrom := BitVec.ofNat 16 f } ∧
        (t.gen g).fadeFrom.toNat = f)

/-- R104, R109: GEN_STOP on a generator that is not running changes no register, and GEN_STEP then answers as it would
have without it. -/
def Obligations.GenStopIsIdempotent : Prop :=
  ∀ (s : State) (idx : BitVec 8), idx.toNat < s.cfg.ng → (s.gen idx.toNat).mode ≠ .running →
    exec (.genStop idx) s = .next { s with result := 0, cmdErr := false, frameValid := false, dcWrite := false } ∧
    execList [.genStop idx, .genStep idx] s = exec (.genStep idx) s

/-- R105: GEN_ISRUN reports 1 in mode RUNNING and 0 in every other, and writes nothing. -/
def Obligations.GenIsrunReportsRunning : Prop :=
  ∀ (s : State) (idx : BitVec 8), idx.toNat < s.cfg.ng →
    exec (.genIsrun idx) s = .next { s with
      result := if (s.gen idx.toNat).mode = .running then 1 else 0,
      cmdErr := false, frameValid := false, dcWrite := false }

/-- R106: GEN_STEP computes the brightness and the `on` report by the mode (the phase reduced modulo GP and the pattern 3
as STOPPED by R262), records it in `last`, settles a stop-fade that reached 0, commits it, clamped, to every channel of
every bound zone, and reports it unclamped; it writes nothing else. -/
def Obligations.GenStepEmitsAndCommits : Prop :=
  ∀ (s : State) (idx : BitVec 8), s.shaped → s.spaceOk .frame → idx.toNat < s.cfg.ng →
    let g := idx.toNat
    let r := s.gen g
    let gc := s.cfg.genCfg g
    ∃ (t : State) (b : Half) (on : Bool), exec (.genStep idx) s = .next t ∧
      t = { s with
        gens := t.gens, frame := t.frame, result := t.result, cmdErr := false, frameValid := false,
        dcWrite := false } ∧
      (r.mode = .running → (b, on) = wave s.cfg gc (r.acc.toNat % gc.period.toNat)) ∧
      (r.mode = .stopping → on = false ∧
        b.toNat = r.fadeFrom.toNat -
          s.cfg.maxLevel.toNat * r.acc.toNat / (gc.period.toNat - gc.period.toNat / 2)) ∧
      (r.mode = .stopped ∨ r.mode = .three → on = false ∧ b = if gc.hold then r.last else 0) ∧
      t.result.toNat = b.toNat + (if on then 2 ^ 16 else 0) ∧
      t.gens.length = s.gens.length ∧ (∀ y, y ≠ g → t.gen y = s.gen y) ∧
      t.gen g = (if r.mode = .stopping ∧ b = 0 then { r with mode := .stopped, acc := 0, last := b }
        else { r with last := b }) ∧
      ∀ ch, (t.memRead .frame ch).toNat =
        if ∃ z < s.cfg.nz, (s.cfg.zoneCfg z).src = .gen g ∧ ch ∈ (s.cfg.zoneCfg z).channels
        then min b.toNat s.cfg.maxLevel.toNat else (s.memRead .frame ch).toNat

/-- R107: `k` TICKs after a GEN_START the phase is `k mod GP` and the generator is running. -/
def Obligations.PhaseCountsTicksSinceStart : Prop :=
  ∀ (s : State) (idx : BitVec 8) (k : Nat), s.cfg.wf → s.shaped → idx.toNat < s.cfg.ng →
    ∃ t, execList (.genStart idx :: pseudoTicks k) s = .next t ∧
      (t.gen idx.toNat).mode = .running ∧
      (t.gen idx.toNat).acc.toNat = k % (s.cfg.genCfg idx.toNat).period.toNat

/-- R110: a Pulse stopped at value `f > 0` emits `max(0, f - (MAX * e) div (P - up))` `e` TICKs later, and settles exactly
when `e` is at least `ceil(f * (P - up) / MAX)`. -/
def Obligations.StopFadeLastsItsDuration : Prop :=
  ∀ (s : State) (idx : BitVec 8) (e : Nat), s.cfg.wf → s.shaped → idx.toNat < s.cfg.ng →
    let g := idx.toNat
    let gc := s.cfg.genCfg g
    let a := s.cfg.maxLevel.toNat
    let half := gc.period.toNat - gc.period.toNat / 2
    let f := pulseLevel a gc.period.toNat ((s.gen g).acc.toNat % gc.period.toNat)
    (s.gen g).mode = .running → gc.kind = .pulse → gc.hold = false → 0 < f →
    ∃ u t, execList (.genStop idx :: pseudoTicks e) s = .next u ∧ exec (.genStep idx) u = .next t ∧
      t.result.toNat = f - a * e / half ∧
      ((t.gen g).mode = .stopped ↔ (f * half + (a - 1)) / a ≤ e)

/-! ## LED zones -/

/-- R130: the level function, over the integers. -/
def Obligations.ZoneLevelInterpolates : Prop :=
  ∀ r : Zone,
    let f := r.fromLevel.toNat
    let t := r.target.toNat
    let d := r.dur.toNat
    let e := r.elapsed.toNat
    (d ≤ e → r.level = r.target) ∧
    (e < d → f ≤ t → r.level.toNat = f + (t - f) * e / d) ∧
    (e < d → t < f → r.level.toNat = f - (f - t) * e / d)

/-- R130: the level lies between `from` and `target` and moves monotonically toward the target as `elapsed` grows. -/
def Obligations.ZoneLevelIsMonotone : Prop :=
  ∀ (r : Zone) (e' : Half), r.elapsed.toNat ≤ e'.toNat →
    let r' : Zone := { r with elapsed := e' }
    (r.fromLevel.toNat ≤ r.target.toNat →
      r.fromLevel.toNat ≤ r.level.toNat ∧ r.level.toNat ≤ r'.level.toNat ∧ r'.level.toNat ≤ r.target.toNat) ∧
    (r.target.toNat ≤ r.fromLevel.toNat →
      r.target.toNat ≤ r'.level.toNat ∧ r'.level.toNat ≤ r.level.toNat ∧ r.level.toNat ≤ r.fromLevel.toNat)

/-- R131, R132: ZONE_ON and ZONE_OFF on a zone settled at the new target change no register; otherwise the fade restarts
from the present level. No other zone, no entry of FRAME and nothing else is written. -/
def Obligations.ZoneOnOffRestartTheFade : Prop :=
  ∀ (s : State) (idx : BitVec 8) (d : Half), s.shaped → idx.toNat < s.cfg.nz →
    let z := idx.toNat
    let c := (s.zone z).level
    let quiet : State := { s with result := 0, cmdErr := false, frameValid := false, dcWrite := false }
    let restarts (op : Instr) (goal : Half) : Prop :=
      (c = goal ∧ (s.zone z).target = goal → exec op s = .next quiet) ∧
      (¬(c = goal ∧ (s.zone z).target = goal) → ∃ t, exec op s = .next t ∧ t = { quiet with zones := t.zones } ∧
        t.zones.length = s.zones.length ∧ (∀ y, y ≠ z → t.zone y = s.zone y) ∧
        t.zone z = { cur := c, fromLevel := c, target := goal, dur := d, elapsed := 0 })
    restarts (.zoneOn idx d) s.cfg.maxLevel ∧ restarts (.zoneOff idx d) 0

/-- R133: ZONE_RUN records and reports the level and, for an ambient zone, commits it, clamped, to the zone's channels;
it writes nothing else. -/
def Obligations.ZoneRunCommitsTheLevel : Prop :=
  ∀ (s : State) (idx : BitVec 8), s.shaped → s.spaceOk .frame → idx.toNat < s.cfg.nz →
    let z := idx.toNat
    let c := (s.zone z).level
    ∃ t, exec (.zoneRun idx) s = .next t ∧
      t = { s with
        zones := t.zones, frame := t.frame, result := t.result, cmdErr := false, frameValid := false,
        dcWrite := false } ∧
      t.result.toNat = c.toNat ∧ t.zones.length = s.zones.length ∧
      t.zone z = { s.zone z with cur := c } ∧ (∀ y, y ≠ z → t.zone y = s.zone y) ∧
      ∀ ch, (t.memRead .frame ch).toNat =
        if (s.cfg.zoneCfg z).src = .fade ∧ ch ∈ (s.cfg.zoneCfg z).channels
        then min c.toNat s.cfg.maxLevel.toNat else (s.memRead .frame ch).toNat

/-- R134: no jump on reversal. Right after a ZONE_ON or ZONE_OFF of duration at least 1 the level is what it was, and one
TICK later it has moved by at most `ceil(MAX / d)`; with duration 0 it is the target at once. -/
def Obligations.NoJumpOnReversal : Prop :=
  ∀ (s : State) (idx : BitVec 8) (d : Half) (op : Instr), s.cfg.wf → s.shaped → idx.toNat < s.cfg.nz →
    (op = .zoneOn idx d ∨ op = .zoneOff idx d) → Zone.ok s.cfg (s.zone idx.toNat) →
    let z := idx.toNat
    let before := (s.zone z).level.toNat
    ∃ t u, exec op s = .next t ∧ exec .tick t = .next u ∧
      (1 ≤ d.toNat →
        (t.zone z).level.toNat = before ∧
        (u.zone z).level.toNat ≤ before + (s.cfg.maxLevel.toNat + d.toNat - 1) / d.toNat ∧
        before ≤ (u.zone z).level.toNat + (s.cfg.maxLevel.toNat + d.toNat - 1) / d.toNat) ∧
      (d.toNat = 0 → (t.zone z).level = if op = .zoneOn idx d then s.cfg.maxLevel else 0)

/-- R136: a fade of duration `d >= 1` toward a level it is not at reaches it exactly `d` TICKs after the call and holds
it. -/
def Obligations.FadeReachesItsTargetAtItsDuration : Prop :=
  ∀ (s : State) (idx : BitVec 8) (d goal : Half) (op : Instr) (k : Nat), s.shaped → idx.toNat < s.cfg.nz →
    1 ≤ d.toNat → (op = .zoneOn idx d ∧ goal = s.cfg.maxLevel) ∨ (op = .zoneOff idx d ∧ goal = 0) →
    (s.zone idx.toNat).level ≠ goal →
    ∃ t, execList (op :: pseudoTicks k) s = .next t ∧ ((t.zone idx.toNat).level = goal ↔ d.toNat ≤ k)

/-! ## The scheduler -/

/-- R181, R188: the transition table of `sched`, one transition at most, and the frame of SCHED_STEP. -/
def Obligations.SchedulerTransitionTable : Prop :=
  ∀ s : State, ∃ t, exec .schedStep s = .next t ∧
    t = { s with
      sched := t.sched, fadeInTimer := t.fadeInTimer, fadeOutTimer := t.fadeOutTimer, asleep := t.asleep,
      zones := t.zones, gens := t.gens, result := 0, cmdErr := false, frameValid := false, dcWrite := false } ∧
    t.zones.length = s.zones.length ∧ t.gens.length = s.gens.length ∧
    t.sched =
      match s.sched, s.inMotion with
      | .idle, true => .fadingIn
      | .idle, false => .idle
      | .fadingIn, true => if s.fadeInTimer = 0 then .steadyOn else .fadingIn
      | .fadingIn, false => .fadingOut
      | .steadyOn, true => .steadyOn
      | .steadyOn, false => .fadingOut
      | .fadingOut, true => .fadingIn
      | .fadingOut, false => if s.fadeOutTimer = 0 then .idle else .fadingOut

/-- R182: motion begins. Every ambient zone gets ZONE_ON with FADE_MS, `fadeInTimer` is loaded, the generators start now
exactly when GATE = 0, and `fadeOutTimer` and `asleep` are left. -/
def Obligations.MotionBeginsFadesIn : Prop :=
  ∀ s : State, s.shaped → s.inMotion = true → (s.sched = .idle ∨ s.sched = .fadingOut) →
    ∃ t, exec .schedStep s = .next t ∧ t.sched = .fadingIn ∧ t.fadeInTimer = s.cfg.fadeMs ∧
      t.fadeOutTimer = s.fadeOutTimer ∧ t.asleep = s.asleep ∧
      (∀ z < s.cfg.nz, t.zone z =
        if (s.cfg.zoneCfg z).src = .fade ∧ ¬((s.zone z).level = s.cfg.maxLevel ∧ (s.zone z).target = s.cfg.maxLevel)
        then { cur := (s.zone z).level, fromLevel := (s.zone z).level, target := s.cfg.maxLevel,
               dur := s.cfg.fadeMs, elapsed := 0 }
        else s.zone z) ∧
      (∀ g < s.cfg.ng, t.gen g = if s.cfg.gate then s.gen g else { s.gen g with mode := .running, acc := 0 })

/-- R183: the fade-in is complete. `sched` is SteadyOn and the generators start now exactly when GATE = 1; while its timer
runs, and in SteadyOn, nothing happens. -/
def Obligations.FadeInCompleteStartsGenerators : Prop :=
  ∀ s : State, s.shaped → s.inMotion = true →
    (s.sched = .fadingIn → s.fadeInTimer = 0 → ∃ t, exec .schedStep s = .next t ∧
      t = { s with
        sched := .steadyOn, gens := t.gens, result := 0, cmdErr := false, frameValid := false, dcWrite := false } ∧
      ∀ g < s.cfg.ng, t.gen g = if s.cfg.gate then { s.gen g with mode := .running, acc := 0 } else s.gen g) ∧
    ((s.sched = .fadingIn ∧ s.fadeInTimer ≠ 0) ∨ s.sched = .steadyOn →
      exec .schedStep s = .next { s with result := 0, cmdErr := false, frameValid := false, dcWrite := false })

/-- R184: motion ends. Every ambient zone gets ZONE_OFF with FADE_MS, every generator gets GEN_STOP, `fadeOutTimer` is
loaded, and `fadeInTimer` and `asleep` are left. -/
def Obligations.MotionEndsFadesOut : Prop :=
  ∀ s : State, s.shaped → s.inMotion = false → (s.sched = .fadingIn ∨ s.sched = .steadyOn) →
    ∃ t, exec .schedStep s = .next t ∧ t.sched = .fadingOut ∧ t.fadeOutTimer = s.cfg.fadeMs ∧
      t.fadeInTimer = s.fadeInTimer ∧ t.asleep = s.asleep ∧
      (∀ z < s.cfg.nz, t.zone z =
        if (s.cfg.zoneCfg z).src = .fade ∧ ¬((s.zone z).level = 0 ∧ (s.zone z).target = 0)
        then { cur := (s.zone z).level, fromLevel := (s.zone z).level, target := 0, dur := s.cfg.fadeMs, elapsed := 0 }
        else s.zone z) ∧
      (∀ idx : BitVec 8, idx.toNat < s.cfg.ng →
        ∃ u, exec (.genStop idx) s = .next u ∧ t.gen idx.toNat = u.gen idx.toNat)

/-- R185, R187: without motion, FadingOut with its timer run out and Idle end in Idle, FadingOut with time left stays;
`asleep` is set exactly when the five-part sleep condition of R187 holds of the state just reached, and nothing else is
written. (That the never-stored `pressClass` pattern 3 prevents the sleep is the model's literal reading of R187, log 11.) -/
def Obligations.IdleRequestsSleep : Prop :=
  ∀ s : State, s.inMotion = false → (s.sched = .idle ∨ s.sched = .fadingOut) →
    let reached : Sched := if s.sched = .fadingOut ∧ s.fadeOutTimer ≠ 0 then .fadingOut else .idle
    let sleeps : Prop := reached = .idle ∧ s.depressed = false ∧ s.pressClass = .none ∧
      ∀ g < s.cfg.ng, (s.gen g).mode ≠ .stopping
    ∃ t, exec .schedStep s = .next t ∧
      t = { s with
        sched := reached, asleep := t.asleep, result := 0, cmdErr := false, frameValid := false, dcWrite := false } ∧
      (t.asleep = true ↔ s.asleep = true ∨ sleeps)

/-- R186: the fade timers and the fades they time run together. `k` TICKs after the SCHED_STEP that began a fade-in (or a
fade-out) its timer is `max(0, FADE_MS - k)`; every ambient zone it restarted has `dur = FADE_MS` and
`elapsed = min(k, FADE_MS)`, so the timer is 0 exactly when `elapsed = dur`, and the zone is then at its target. -/
def Obligations.FadeTimerRunsWithTheFades : Prop :=
  ∀ (s : State) (k : Nat), s.shaped →
    let runsTogether (t : State) (timer goal : Half) : Prop :=
      timer.toNat = s.cfg.fadeMs.toNat - k ∧
      ∀ z < s.cfg.nz, (s.cfg.zoneCfg z).src = .fade → ¬((s.zone z).level = goal ∧ (s.zone z).target = goal) →
        (t.zone z).dur = s.cfg.fadeMs ∧ (t.zone z).elapsed.toNat = min k s.cfg.fadeMs.toNat ∧
        (timer = 0 ↔ (t.zone z).elapsed = (t.zone z).dur) ∧ (timer = 0 → (t.zone z).level = goal)
    (s.inMotion = true → (s.sched = .idle ∨ s.sched = .fadingOut) →
      ∃ t, execList (.schedStep :: pseudoTicks k) s = .next t ∧ runsTogether t t.fadeInTimer s.cfg.maxLevel) ∧
    (s.inMotion = false → (s.sched = .fadingIn ∨ s.sched = .steadyOn) →
      ∃ t, execList (.schedStep :: pseudoTicks k) s = .next t ∧ runsTogether t t.fadeOutTimer 0)

/-! ## Whole-machine rules -/

/-- R27, R215, R244: the four interrupt-context operations and RESET leave the block awake; no other operation ends a
sleep; only POLL and SCHED_STEP begin one. -/
def Obligations.OnlyInterruptsAndResetWake : Prop :=
  ∀ (i : Instr) (s t : State), exec i s = .next t →
    (i.context = .interrupt ∨ i = .reset → t.asleep = false) ∧
    (i.context ≠ .interrupt → i ≠ .reset → s.asleep = true → t.asleep = true) ∧
    (s.asleep = false → t.asleep = true → i = .poll ∨ i = .schedStep)

/-- R72, R271: the interrupt-context operations write none of FRAME, DC, `halfBrightness`, `lockout`, `sched`, nor any
zone register but `elapsed`, nor any generator register but `acc`. -/
def Obligations.InterruptsWriteOnlyFlagsAndCounters : Prop :=
  ∀ (i : Instr) (s t : State), i.context = .interrupt → exec i s = .next t →
    t.frame = s.frame ∧ t.dc = s.dc ∧ t.halfBrightness = s.halfBrightness ∧ t.lockout = s.lockout ∧
    t.sched = s.sched ∧ t.dcOut = s.dcOut ∧ t.dcWrite = false ∧ t.result = 0 ∧
    (∀ z, t.zone z = { s.zone z with elapsed := (t.zone z).elapsed }) ∧
    (∀ g, t.gen g = { s.gen g with acc := (t.gen g).acc })

/-- R72: the main-loop operations write none of `now`, `lastLevel`, `depressed`, `shortTimer`, `longTimer`, send no frame,
and never set `inMotion` nor load the motion timer. -/
def Obligations.MainLoopLeavesInterruptRegisters : Prop :=
  ∀ (i : Instr) (s t : State), i.context = .mainLoop → exec i s = .next t →
    t.now = s.now ∧ t.lastLevel = s.lastLevel ∧ t.depressed = s.depressed ∧ t.shortTimer = s.shortTimer ∧
    t.longTimer = s.longTimer ∧ t.frameOut = s.frameOut ∧ t.frameValid = false ∧
    (t.inMotion = s.inMotion ∨ t.inMotion = false) ∧ (t.motionTimer = s.motionTimer ∨ t.motionTimer = 0)

/-- R241, R210: TICK is the only operation that moves time: every other one but RESET leaves `now`, and leaves each of
the five timers as it was or loads it with its configured time or 0. -/
def Obligations.OnlyTickMovesTime : Prop :=
  ∀ (i : Instr) (s t : State), i ≠ .tick → i ≠ .reset → exec i s = .next t →
    t.now = s.now ∧
    (t.motionTimer = s.motionTimer ∨ t.motionTimer = s.cfg.holdMs ∨ t.motionTimer = 0) ∧
    (t.shortTimer = s.shortTimer ∨ t.shortTimer = s.cfg.shortMs) ∧
    (t.longTimer = s.longTimer ∨ t.longTimer = s.cfg.longMs) ∧
    (t.fadeInTimer = s.fadeInTimer ∨ t.fadeInTimer = s.cfg.fadeMs) ∧
    (t.fadeOutTimer = s.fadeOutTimer ∨ t.fadeOutTimer = s.cfg.fadeMs)

/-- R61, R62, R63: FRAME is written by ZONE_RUN, GEN_STEP, POLL and RESET only, DC by BTN_CONSUME, POLL and RESET only,
and a channel of no zone keeps its entry under every operation but RESET, which makes it 0. -/
def Obligations.OnlyCommitsWriteTheSpaces : Prop :=
  ∀ (i : Instr) (s t : State), exec i s = .next t → s.spaceOk .frame →
    (t.frame = s.frame ∨ i = .poll ∨ i = .reset ∨ (∃ idx, i = .zoneRun idx) ∨ ∃ idx, i = .genStep idx) ∧
    (t.dc = s.dc ∨ i = .poll ∨ i = .reset ∨ i = .btnConsume) ∧
    ∀ ch, (∀ z < s.cfg.nz, ch ∉ (s.cfg.zoneCfg z).channels) →
      t.memRead .frame ch = if i = .reset then 0 else s.memRead .frame ch
end

