-- ==== Sys2Proof/Laws/Memory.lean ====
section
/-! SUPPORT. Laws/Memory.lean: reading after writing, and that a write keeps the canonical form. -/

namespace Sys2Proof.Machine

/-- A read after a write to the same channel gives the value written. -/
@[simp] theorem Memory.read_write_same (dflt : Nat → Half) (m : Memory) (ch : Nat) (v : Half)
    (h : List.Pairwise (fun a b : Nat × Half => a.1 < b.1) m) :
    Memory.read dflt (Memory.write dflt m ch v) ch = v := by
  induction m with
  | nil => by_cases hv : v = dflt ch <;> simp [Memory.write, Memory.read, hv]
  | cons e m ih =>
    obtain ⟨k, x⟩ := e
    have hm := List.pairwise_cons.1 h
    have later : ∀ m' : Memory, (∀ e ∈ m', ch < e.1) → Memory.read dflt m' ch = dflt ch := by
      intro m' hm'
      induction m' with
      | nil => rfl
      | cons e m' ih' =>
        have := hm' e (by simp)
        simp only [Memory.read]
        rw [if_neg (by omega), ih' (fun e' he' => hm' e' (by simp [he']))]
    simp only [Memory.write]
    by_cases h1 : ch < k
    · have hk : Memory.read dflt ((k, x) :: m) ch = dflt ch := by
        refine later _ fun e he => ?_
        rcases List.mem_cons.1 he with rfl | he
        · exact h1
        · exact lt_trans h1 (hm.1 e he)
      by_cases hv : v = dflt ch
      · simp [h1, hv, hk]
      · simp [h1, hv, Memory.read]
    · by_cases h2 : ch = k
      · subst h2
        by_cases hv : v = dflt ch
        · simp [hv, later m hm.1]
        · simp [hv, Memory.read]
      · simp [h1, h2, Memory.read, Ne.symm h2, ih hm.2]

/-- A write leaves every other channel as it was. -/
@[simp] theorem Memory.read_write_other (dflt : Nat → Half) (m : Memory) (ch a : Nat) (v : Half) (h : a ≠ ch) :
    Memory.read dflt (Memory.write dflt m ch v) a = Memory.read dflt m a := by
  induction m with
  | nil => by_cases hv : v = dflt ch <;> simp [Memory.write, Memory.read, hv, h.symm]
  | cons e m ih =>
    obtain ⟨k, x⟩ := e
    simp only [Memory.write]
    by_cases h1 : ch < k
    · by_cases hv : v = dflt ch <;> simp [h1, hv, Memory.read, h.symm]
    · by_cases h2 : ch = k
      · subst h2
        by_cases hv : v = dflt ch <;> simp [hv, Memory.read, h.symm]
      · simp [h1, h2, Memory.read, ih]

/-- What a write lists was listed before or is the entry written. -/
theorem Memory.mem_write (dflt : Nat → Half) (m : Memory) (ch : Nat) (v : Half) (e : Nat × Half)
    (h : e ∈ Memory.write dflt m ch v) : e ∈ m ∨ (e = (ch, v) ∧ v ≠ dflt ch) := by
  induction m with
  | nil =>
    by_cases hv : v = dflt ch
    · simp [Memory.write, hv] at h
    · simp [Memory.write, hv] at h
      exact .inr ⟨h, hv⟩
  | cons e' m ih =>
    obtain ⟨k, x⟩ := e'
    simp only [Memory.write] at h
    split at h
    · split at h
      · exact .inl h
      · rcases List.mem_cons.1 h with rfl | h
        · exact .inr ⟨rfl, ‹_›⟩
        · exact .inl h
    · split at h
      · split at h
        · exact .inl (List.mem_cons_of_mem _ h)
        · rcases List.mem_cons.1 h with rfl | h
          · exact .inr ⟨rfl, ‹_›⟩
          · exact .inl (List.mem_cons_of_mem _ h)
      · rcases List.mem_cons.1 h with rfl | h
        · exact .inl (by simp)
        · rcases ih h with h | h
          · exact .inl (List.mem_cons_of_mem _ h)
          · exact .inr h

/-- A write keeps the canonical form. -/
theorem Memory.write_wf (dflt : Nat → Half) (m : Memory) (ch : Nat) (v : Half) (h : Memory.wf dflt m) :
    Memory.wf dflt (Memory.write dflt m ch v) := by
  refine ⟨?_, fun e he => ?_⟩
  · obtain ⟨h, -⟩ := h
    induction m with
    | nil => by_cases hv : v = dflt ch <;> simp [Memory.write, hv]
    | cons e m ih =>
      obtain ⟨k, x⟩ := e
      have hm := List.pairwise_cons.1 h
      simp only [Memory.write]
      split
      · split
        · exact h
        · refine List.pairwise_cons.2 ⟨fun e he => ?_, h⟩
          rcases List.mem_cons.1 he with rfl | he
          · assumption
          · exact lt_trans ‹_› (hm.1 e he)
      · split
        · subst ch
          split
          · exact hm.2
          · exact List.pairwise_cons.2 ⟨hm.1, hm.2⟩
        · refine List.pairwise_cons.2 ⟨fun e he => ?_, ih hm.2⟩
          rcases Memory.mem_write dflt m ch v e he with he | ⟨rfl, -⟩
          · exact hm.1 e he
          · change k < ch; omega
  · rcases Memory.mem_write dflt m ch v e he with he | ⟨rfl, hv⟩
    · exact h.2 e he
    · exact hv

/-- A write to a channel below `n` lists no channel beyond `n`. -/
theorem Memory.write_bound (dflt : Nat → Half) (m : Memory) (ch n : Nat) (v : Half) (hc : ch < n)
    (h : ∀ e ∈ m, e.1 < n) : ∀ e ∈ Memory.write dflt m ch v, e.1 < n := by
  intro e he
  rcases Memory.mem_write dflt m ch v e he with he | ⟨rfl, -⟩
  · exact h e he
  · exact hc

/-- The empty memory, what both address spaces are after RESET, has the canonical form. -/
theorem Memory.nil_wf (dflt : Nat → Half) : Memory.wf dflt [] :=
  ⟨.nil, fun e h => absurd h (by simp)⟩

end Sys2Proof.Machine
end

