-- ==== Sys2Proof/Laws/State.lean ====
section
/-! SUPPORT. Laws/State.lean: one lemma for each field and each update of the state, so that no later proof unfolds an
update. -/

namespace Sys2Proof.Machine

/-! ## beginOp -/

@[simp] theorem State.beginOp_cfg (s : State) : s.beginOp.cfg = s.cfg := rfl
@[simp] theorem State.beginOp_cmd (s : State) : s.beginOp.cmd = s.cmd := rfl
@[simp] theorem State.beginOp_now (s : State) : s.beginOp.now = s.now := rfl
@[simp] theorem State.beginOp_inMotion (s : State) : s.beginOp.inMotion = s.inMotion := rfl
@[simp] theorem State.beginOp_motionTimer (s : State) : s.beginOp.motionTimer = s.motionTimer := rfl
@[simp] theorem State.beginOp_lastLevel (s : State) : s.beginOp.lastLevel = s.lastLevel := rfl
@[simp] theorem State.beginOp_depressed (s : State) : s.beginOp.depressed = s.depressed := rfl
@[simp] theorem State.beginOp_shortTimer (s : State) : s.beginOp.shortTimer = s.shortTimer := rfl
@[simp] theorem State.beginOp_longTimer (s : State) : s.beginOp.longTimer = s.longTimer := rfl
@[simp] theorem State.beginOp_pressClass (s : State) : s.beginOp.pressClass = s.pressClass := rfl
@[simp] theorem State.beginOp_halfBrightness (s : State) : s.beginOp.halfBrightness = s.halfBrightness := rfl
@[simp] theorem State.beginOp_lockout (s : State) : s.beginOp.lockout = s.lockout := rfl
@[simp] theorem State.beginOp_sched (s : State) : s.beginOp.sched = s.sched := rfl
@[simp] theorem State.beginOp_fadeInTimer (s : State) : s.beginOp.fadeInTimer = s.fadeInTimer := rfl
@[simp] theorem State.beginOp_fadeOutTimer (s : State) : s.beginOp.fadeOutTimer = s.fadeOutTimer := rfl
@[simp] theorem State.beginOp_asleep (s : State) : s.beginOp.asleep = s.asleep := rfl
@[simp] theorem State.beginOp_zones (s : State) : s.beginOp.zones = s.zones := rfl
@[simp] theorem State.beginOp_gens (s : State) : s.beginOp.gens = s.gens := rfl
@[simp] theorem State.beginOp_frame (s : State) : s.beginOp.frame = s.frame := rfl
@[simp] theorem State.beginOp_dc (s : State) : s.beginOp.dc = s.dc := rfl
@[simp] theorem State.beginOp_result (s : State) : s.beginOp.result = 0 := rfl
@[simp] theorem State.beginOp_cmdErr (s : State) : s.beginOp.cmdErr = false := rfl
@[simp] theorem State.beginOp_frameOut (s : State) : s.beginOp.frameOut = s.frameOut := rfl
@[simp] theorem State.beginOp_frameValid (s : State) : s.beginOp.frameValid = false := rfl
@[simp] theorem State.beginOp_dcOut (s : State) : s.beginOp.dcOut = s.dcOut := rfl
@[simp] theorem State.beginOp_dcWrite (s : State) : s.beginOp.dcWrite = false := rfl

/-! ## withResult -/

@[simp] theorem State.withResult_cfg (s : State) (w : Word) : (s.withResult w).cfg = s.cfg := rfl
@[simp] theorem State.withResult_cmd (s : State) (w : Word) : (s.withResult w).cmd = s.cmd := rfl
@[simp] theorem State.withResult_now (s : State) (w : Word) : (s.withResult w).now = s.now := rfl
@[simp] theorem State.withResult_inMotion (s : State) (w : Word) : (s.withResult w).inMotion = s.inMotion := rfl
@[simp] theorem State.withResult_motionTimer (s : State) (w : Word) : (s.withResult w).motionTimer = s.motionTimer := rfl
@[simp] theorem State.withResult_lastLevel (s : State) (w : Word) : (s.withResult w).lastLevel = s.lastLevel := rfl
@[simp] theorem State.withResult_depressed (s : State) (w : Word) : (s.withResult w).depressed = s.depressed := rfl
@[simp] theorem State.withResult_shortTimer (s : State) (w : Word) : (s.withResult w).shortTimer = s.shortTimer := rfl
@[simp] theorem State.withResult_longTimer (s : State) (w : Word) : (s.withResult w).longTimer = s.longTimer := rfl
@[simp] theorem State.withResult_pressClass (s : State) (w : Word) : (s.withResult w).pressClass = s.pressClass := rfl
@[simp] theorem State.withResult_halfBrightness (s : State) (w : Word) : (s.withResult w).halfBrightness = s.halfBrightness := rfl
@[simp] theorem State.withResult_lockout (s : State) (w : Word) : (s.withResult w).lockout = s.lockout := rfl
@[simp] theorem State.withResult_sched (s : State) (w : Word) : (s.withResult w).sched = s.sched := rfl
@[simp] theorem State.withResult_fadeInTimer (s : State) (w : Word) : (s.withResult w).fadeInTimer = s.fadeInTimer := rfl
@[simp] theorem State.withResult_fadeOutTimer (s : State) (w : Word) : (s.withResult w).fadeOutTimer = s.fadeOutTimer := rfl
@[simp] theorem State.withResult_asleep (s : State) (w : Word) : (s.withResult w).asleep = s.asleep := rfl
@[simp] theorem State.withResult_zones (s : State) (w : Word) : (s.withResult w).zones = s.zones := rfl
@[simp] theorem State.withResult_gens (s : State) (w : Word) : (s.withResult w).gens = s.gens := rfl
@[simp] theorem State.withResult_frame (s : State) (w : Word) : (s.withResult w).frame = s.frame := rfl
@[simp] theorem State.withResult_dc (s : State) (w : Word) : (s.withResult w).dc = s.dc := rfl
@[simp] theorem State.withResult_result (s : State) (w : Word) : (s.withResult w).result = w := rfl
@[simp] theorem State.withResult_cmdErr (s : State) (w : Word) : (s.withResult w).cmdErr = s.cmdErr := rfl
@[simp] theorem State.withResult_frameOut (s : State) (w : Word) : (s.withResult w).frameOut = s.frameOut := rfl
@[simp] theorem State.withResult_frameValid (s : State) (w : Word) : (s.withResult w).frameValid = s.frameValid := rfl
@[simp] theorem State.withResult_dcOut (s : State) (w : Word) : (s.withResult w).dcOut = s.dcOut := rfl
@[simp] theorem State.withResult_dcWrite (s : State) (w : Word) : (s.withResult w).dcWrite = s.dcWrite := rfl

/-! ## idle -/

@[simp] theorem State.idle_cfg (s : State) : s.idle.cfg = s.cfg := rfl
@[simp] theorem State.idle_cmd (s : State) : s.idle.cmd = s.cmd := rfl
@[simp] theorem State.idle_now (s : State) : s.idle.now = s.now := rfl
@[simp] theorem State.idle_inMotion (s : State) : s.idle.inMotion = s.inMotion := rfl
@[simp] theorem State.idle_motionTimer (s : State) : s.idle.motionTimer = s.motionTimer := rfl
@[simp] theorem State.idle_lastLevel (s : State) : s.idle.lastLevel = s.lastLevel := rfl
@[simp] theorem State.idle_depressed (s : State) : s.idle.depressed = s.depressed := rfl
@[simp] theorem State.idle_shortTimer (s : State) : s.idle.shortTimer = s.shortTimer := rfl
@[simp] theorem State.idle_longTimer (s : State) : s.idle.longTimer = s.longTimer := rfl
@[simp] theorem State.idle_pressClass (s : State) : s.idle.pressClass = s.pressClass := rfl
@[simp] theorem State.idle_halfBrightness (s : State) : s.idle.halfBrightness = s.halfBrightness := rfl
@[simp] theorem State.idle_lockout (s : State) : s.idle.lockout = s.lockout := rfl
@[simp] theorem State.idle_sched (s : State) : s.idle.sched = s.sched := rfl
@[simp] theorem State.idle_fadeInTimer (s : State) : s.idle.fadeInTimer = s.fadeInTimer := rfl
@[simp] theorem State.idle_fadeOutTimer (s : State) : s.idle.fadeOutTimer = s.fadeOutTimer := rfl
@[simp] theorem State.idle_asleep (s : State) : s.idle.asleep = s.asleep := rfl
@[simp] theorem State.idle_zones (s : State) : s.idle.zones = s.zones := rfl
@[simp] theorem State.idle_gens (s : State) : s.idle.gens = s.gens := rfl
@[simp] theorem State.idle_frame (s : State) : s.idle.frame = s.frame := rfl
@[simp] theorem State.idle_dc (s : State) : s.idle.dc = s.dc := rfl
@[simp] theorem State.idle_result (s : State) : s.idle.result = s.result := rfl
@[simp] theorem State.idle_cmdErr (s : State) : s.idle.cmdErr = false := rfl
@[simp] theorem State.idle_frameOut (s : State) : s.idle.frameOut = s.frameOut := rfl
@[simp] theorem State.idle_frameValid (s : State) : s.idle.frameValid = false := rfl
@[simp] theorem State.idle_dcOut (s : State) : s.idle.dcOut = s.dcOut := rfl
@[simp] theorem State.idle_dcWrite (s : State) : s.idle.dcWrite = false := rfl

/-! ## raiseRefused -/

@[simp] theorem State.raiseRefused_cfg (s : State) : s.raiseRefused.cfg = s.cfg := rfl
@[simp] theorem State.raiseRefused_cmd (s : State) : s.raiseRefused.cmd = s.cmd := rfl
@[simp] theorem State.raiseRefused_now (s : State) : s.raiseRefused.now = s.now := rfl
@[simp] theorem State.raiseRefused_inMotion (s : State) : s.raiseRefused.inMotion = s.inMotion := rfl
@[simp] theorem State.raiseRefused_motionTimer (s : State) : s.raiseRefused.motionTimer = s.motionTimer := rfl
@[simp] theorem State.raiseRefused_lastLevel (s : State) : s.raiseRefused.lastLevel = s.lastLevel := rfl
@[simp] theorem State.raiseRefused_depressed (s : State) : s.raiseRefused.depressed = s.depressed := rfl
@[simp] theorem State.raiseRefused_shortTimer (s : State) : s.raiseRefused.shortTimer = s.shortTimer := rfl
@[simp] theorem State.raiseRefused_longTimer (s : State) : s.raiseRefused.longTimer = s.longTimer := rfl
@[simp] theorem State.raiseRefused_pressClass (s : State) : s.raiseRefused.pressClass = s.pressClass := rfl
@[simp] theorem State.raiseRefused_halfBrightness (s : State) : s.raiseRefused.halfBrightness = s.halfBrightness := rfl
@[simp] theorem State.raiseRefused_lockout (s : State) : s.raiseRefused.lockout = s.lockout := rfl
@[simp] theorem State.raiseRefused_sched (s : State) : s.raiseRefused.sched = s.sched := rfl
@[simp] theorem State.raiseRefused_fadeInTimer (s : State) : s.raiseRefused.fadeInTimer = s.fadeInTimer := rfl
@[simp] theorem State.raiseRefused_fadeOutTimer (s : State) : s.raiseRefused.fadeOutTimer = s.fadeOutTimer := rfl
@[simp] theorem State.raiseRefused_asleep (s : State) : s.raiseRefused.asleep = s.asleep := rfl
@[simp] theorem State.raiseRefused_zones (s : State) : s.raiseRefused.zones = s.zones := rfl
@[simp] theorem State.raiseRefused_gens (s : State) : s.raiseRefused.gens = s.gens := rfl
@[simp] theorem State.raiseRefused_frame (s : State) : s.raiseRefused.frame = s.frame := rfl
@[simp] theorem State.raiseRefused_dc (s : State) : s.raiseRefused.dc = s.dc := rfl
@[simp] theorem State.raiseRefused_result (s : State) : s.raiseRefused.result = 0 := rfl
@[simp] theorem State.raiseRefused_cmdErr (s : State) : s.raiseRefused.cmdErr = true := rfl
@[simp] theorem State.raiseRefused_frameOut (s : State) : s.raiseRefused.frameOut = s.frameOut := rfl
@[simp] theorem State.raiseRefused_frameValid (s : State) : s.raiseRefused.frameValid = false := rfl
@[simp] theorem State.raiseRefused_dcOut (s : State) : s.raiseRefused.dcOut = s.dcOut := rfl
@[simp] theorem State.raiseRefused_dcWrite (s : State) : s.raiseRefused.dcWrite = false := rfl

/-! ## wake -/

@[simp] theorem State.wake_cfg (s : State) : s.wake.cfg = s.cfg := rfl
@[simp] theorem State.wake_cmd (s : State) : s.wake.cmd = s.cmd := rfl
@[simp] theorem State.wake_now (s : State) : s.wake.now = s.now := rfl
@[simp] theorem State.wake_inMotion (s : State) : s.wake.inMotion = s.inMotion := rfl
@[simp] theorem State.wake_motionTimer (s : State) : s.wake.motionTimer = s.motionTimer := rfl
@[simp] theorem State.wake_lastLevel (s : State) : s.wake.lastLevel = s.lastLevel := rfl
@[simp] theorem State.wake_depressed (s : State) : s.wake.depressed = s.depressed := rfl
@[simp] theorem State.wake_shortTimer (s : State) : s.wake.shortTimer = s.shortTimer := rfl
@[simp] theorem State.wake_longTimer (s : State) : s.wake.longTimer = s.longTimer := rfl
@[simp] theorem State.wake_pressClass (s : State) : s.wake.pressClass = s.pressClass := rfl
@[simp] theorem State.wake_halfBrightness (s : State) : s.wake.halfBrightness = s.halfBrightness := rfl
@[simp] theorem State.wake_lockout (s : State) : s.wake.lockout = s.lockout := rfl
@[simp] theorem State.wake_sched (s : State) : s.wake.sched = s.sched := rfl
@[simp] theorem State.wake_fadeInTimer (s : State) : s.wake.fadeInTimer = s.fadeInTimer := rfl
@[simp] theorem State.wake_fadeOutTimer (s : State) : s.wake.fadeOutTimer = s.fadeOutTimer := rfl
@[simp] theorem State.wake_asleep (s : State) : s.wake.asleep = false := rfl
@[simp] theorem State.wake_zones (s : State) : s.wake.zones = s.zones := rfl
@[simp] theorem State.wake_gens (s : State) : s.wake.gens = s.gens := rfl
@[simp] theorem State.wake_frame (s : State) : s.wake.frame = s.frame := rfl
@[simp] theorem State.wake_dc (s : State) : s.wake.dc = s.dc := rfl
@[simp] theorem State.wake_result (s : State) : s.wake.result = s.result := rfl
@[simp] theorem State.wake_cmdErr (s : State) : s.wake.cmdErr = s.cmdErr := rfl
@[simp] theorem State.wake_frameOut (s : State) : s.wake.frameOut = s.frameOut := rfl
@[simp] theorem State.wake_frameValid (s : State) : s.wake.frameValid = s.frameValid := rfl
@[simp] theorem State.wake_dcOut (s : State) : s.wake.dcOut = s.dcOut := rfl
@[simp] theorem State.wake_dcWrite (s : State) : s.wake.dcWrite = s.dcWrite := rfl

/-! ## tick -/

@[simp] theorem State.tick_cfg (s : State) : s.tick.cfg = s.cfg := rfl
@[simp] theorem State.tick_cmd (s : State) : s.tick.cmd = s.cmd := rfl
@[simp] theorem State.tick_now (s : State) : s.tick.now = s.now + 1 := rfl
@[simp] theorem State.tick_inMotion (s : State) : s.tick.inMotion = s.inMotion := rfl
@[simp] theorem State.tick_motionTimer (s : State) : s.tick.motionTimer = dec s.motionTimer := rfl
@[simp] theorem State.tick_lastLevel (s : State) : s.tick.lastLevel = s.lastLevel := rfl
@[simp] theorem State.tick_depressed (s : State) : s.tick.depressed = s.depressed := rfl
@[simp] theorem State.tick_shortTimer (s : State) : s.tick.shortTimer = dec s.shortTimer := rfl
@[simp] theorem State.tick_longTimer (s : State) : s.tick.longTimer = dec s.longTimer := rfl
@[simp] theorem State.tick_pressClass (s : State) : s.tick.pressClass = s.pressClass := rfl
@[simp] theorem State.tick_halfBrightness (s : State) : s.tick.halfBrightness = s.halfBrightness := rfl
@[simp] theorem State.tick_lockout (s : State) : s.tick.lockout = s.lockout := rfl
@[simp] theorem State.tick_sched (s : State) : s.tick.sched = s.sched := rfl
@[simp] theorem State.tick_fadeInTimer (s : State) : s.tick.fadeInTimer = dec s.fadeInTimer := rfl
@[simp] theorem State.tick_fadeOutTimer (s : State) : s.tick.fadeOutTimer = dec s.fadeOutTimer := rfl
@[simp] theorem State.tick_asleep (s : State) : s.tick.asleep = s.asleep := rfl
@[simp] theorem State.tick_zones (s : State) : s.tick.zones = s.zones.map Zone.tick := rfl
@[simp] theorem State.tick_gens (s : State) : s.tick.gens = s.gens.mapIdx fun g r => r.tick (s.cfg.genCfg g) := rfl
@[simp] theorem State.tick_frame (s : State) : s.tick.frame = s.frame := rfl
@[simp] theorem State.tick_dc (s : State) : s.tick.dc = s.dc := rfl
@[simp] theorem State.tick_result (s : State) : s.tick.result = s.result := rfl
@[simp] theorem State.tick_cmdErr (s : State) : s.tick.cmdErr = s.cmdErr := rfl
@[simp] theorem State.tick_frameOut (s : State) : s.tick.frameOut = s.frameOut := rfl
@[simp] theorem State.tick_frameValid (s : State) : s.tick.frameValid = s.frameValid := rfl
@[simp] theorem State.tick_dcOut (s : State) : s.tick.dcOut = s.dcOut := rfl
@[simp] theorem State.tick_dcWrite (s : State) : s.tick.dcWrite = s.dcWrite := rfl

/-! ## refresh -/

@[simp] theorem State.refresh_cfg (s : State) : s.refresh.cfg = s.cfg := rfl
@[simp] theorem State.refresh_cmd (s : State) : s.refresh.cmd = s.cmd := rfl
@[simp] theorem State.refresh_now (s : State) : s.refresh.now = s.now := rfl
@[simp] theorem State.refresh_inMotion (s : State) : s.refresh.inMotion = s.inMotion := rfl
@[simp] theorem State.refresh_motionTimer (s : State) : s.refresh.motionTimer = s.motionTimer := rfl
@[simp] theorem State.refresh_lastLevel (s : State) : s.refresh.lastLevel = s.lastLevel := rfl
@[simp] theorem State.refresh_depressed (s : State) : s.refresh.depressed = s.depressed := rfl
@[simp] theorem State.refresh_shortTimer (s : State) : s.refresh.shortTimer = s.shortTimer := rfl
@[simp] theorem State.refresh_longTimer (s : State) : s.refresh.longTimer = s.longTimer := rfl
@[simp] theorem State.refresh_pressClass (s : State) : s.refresh.pressClass = s.pressClass := rfl
@[simp] theorem State.refresh_halfBrightness (s : State) : s.refresh.halfBrightness = s.halfBrightness := rfl
@[simp] theorem State.refresh_lockout (s : State) : s.refresh.lockout = s.lockout := rfl
@[simp] theorem State.refresh_sched (s : State) : s.refresh.sched = s.sched := rfl
@[simp] theorem State.refresh_fadeInTimer (s : State) : s.refresh.fadeInTimer = s.fadeInTimer := rfl
@[simp] theorem State.refresh_fadeOutTimer (s : State) : s.refresh.fadeOutTimer = s.fadeOutTimer := rfl
@[simp] theorem State.refresh_asleep (s : State) : s.refresh.asleep = s.asleep := rfl
@[simp] theorem State.refresh_zones (s : State) : s.refresh.zones = s.zones := rfl
@[simp] theorem State.refresh_gens (s : State) : s.refresh.gens = s.gens := rfl
@[simp] theorem State.refresh_frame (s : State) : s.refresh.frame = s.frame := rfl
@[simp] theorem State.refresh_dc (s : State) : s.refresh.dc = s.dc := rfl
@[simp] theorem State.refresh_result (s : State) : s.refresh.result = s.result := rfl
@[simp] theorem State.refresh_cmdErr (s : State) : s.refresh.cmdErr = s.cmdErr := rfl
@[simp] theorem State.refresh_frameOut (s : State) : s.refresh.frameOut = s.vector .frame := rfl
@[simp] theorem State.refresh_frameValid (s : State) : s.refresh.frameValid = true := rfl
@[simp] theorem State.refresh_dcOut (s : State) : s.refresh.dcOut = s.dcOut := rfl
@[simp] theorem State.refresh_dcWrite (s : State) : s.refresh.dcWrite = s.dcWrite := rfl

/-! ## pressEdge -/

@[simp] theorem State.pressEdge_cfg (s : State) : s.pressEdge.cfg = s.cfg := rfl
@[simp] theorem State.pressEdge_cmd (s : State) : s.pressEdge.cmd = s.cmd := rfl
@[simp] theorem State.pressEdge_now (s : State) : s.pressEdge.now = s.now := rfl
@[simp] theorem State.pressEdge_inMotion (s : State) : s.pressEdge.inMotion = s.inMotion := rfl
@[simp] theorem State.pressEdge_motionTimer (s : State) : s.pressEdge.motionTimer = s.motionTimer := rfl
@[simp] theorem State.pressEdge_lastLevel (s : State) : s.pressEdge.lastLevel = s.lastLevel := rfl
@[simp] theorem State.pressEdge_depressed (s : State) : s.pressEdge.depressed = true := rfl
@[simp] theorem State.pressEdge_shortTimer (s : State) : s.pressEdge.shortTimer = s.cfg.shortMs := rfl
@[simp] theorem State.pressEdge_longTimer (s : State) : s.pressEdge.longTimer = s.cfg.longMs := rfl
@[simp] theorem State.pressEdge_pressClass (s : State) : s.pressEdge.pressClass = s.pressClass := rfl
@[simp] theorem State.pressEdge_halfBrightness (s : State) : s.pressEdge.halfBrightness = s.halfBrightness := rfl
@[simp] theorem State.pressEdge_lockout (s : State) : s.pressEdge.lockout = s.lockout := rfl
@[simp] theorem State.pressEdge_sched (s : State) : s.pressEdge.sched = s.sched := rfl
@[simp] theorem State.pressEdge_fadeInTimer (s : State) : s.pressEdge.fadeInTimer = s.fadeInTimer := rfl
@[simp] theorem State.pressEdge_fadeOutTimer (s : State) : s.pressEdge.fadeOutTimer = s.fadeOutTimer := rfl
@[simp] theorem State.pressEdge_asleep (s : State) : s.pressEdge.asleep = s.asleep := rfl
@[simp] theorem State.pressEdge_zones (s : State) : s.pressEdge.zones = s.zones := rfl
@[simp] theorem State.pressEdge_gens (s : State) : s.pressEdge.gens = s.gens := rfl
@[simp] theorem State.pressEdge_frame (s : State) : s.pressEdge.frame = s.frame := rfl
@[simp] theorem State.pressEdge_dc (s : State) : s.pressEdge.dc = s.dc := rfl
@[simp] theorem State.pressEdge_result (s : State) : s.pressEdge.result = s.result := rfl
@[simp] theorem State.pressEdge_cmdErr (s : State) : s.pressEdge.cmdErr = s.cmdErr := rfl
@[simp] theorem State.pressEdge_frameOut (s : State) : s.pressEdge.frameOut = s.frameOut := rfl
@[simp] theorem State.pressEdge_frameValid (s : State) : s.pressEdge.frameValid = s.frameValid := rfl
@[simp] theorem State.pressEdge_dcOut (s : State) : s.pressEdge.dcOut = s.dcOut := rfl
@[simp] theorem State.pressEdge_dcWrite (s : State) : s.pressEdge.dcWrite = s.dcWrite := rfl

/-! ## longAction -/

@[simp] theorem State.longAction_cfg (s : State) : s.longAction.cfg = s.cfg := rfl
@[simp] theorem State.longAction_cmd (s : State) : s.longAction.cmd = s.cmd := rfl
@[simp] theorem State.longAction_now (s : State) : s.longAction.now = s.now := rfl
@[simp] theorem State.longAction_inMotion (s : State) : s.longAction.inMotion = false := rfl
@[simp] theorem State.longAction_motionTimer (s : State) : s.longAction.motionTimer = 0 := rfl
@[simp] theorem State.longAction_lastLevel (s : State) : s.longAction.lastLevel = s.lastLevel := rfl
@[simp] theorem State.longAction_depressed (s : State) : s.longAction.depressed = s.depressed := rfl
@[simp] theorem State.longAction_shortTimer (s : State) : s.longAction.shortTimer = s.shortTimer := rfl
@[simp] theorem State.longAction_longTimer (s : State) : s.longAction.longTimer = s.longTimer := rfl
@[simp] theorem State.longAction_pressClass (s : State) : s.longAction.pressClass = s.pressClass := rfl
@[simp] theorem State.longAction_halfBrightness (s : State) : s.longAction.halfBrightness = s.halfBrightness := rfl
@[simp] theorem State.longAction_lockout (s : State) : s.longAction.lockout = if s.cfg.longLockout then !s.lockout else s.lockout := rfl
@[simp] theorem State.longAction_sched (s : State) : s.longAction.sched = s.sched := rfl
@[simp] theorem State.longAction_fadeInTimer (s : State) : s.longAction.fadeInTimer = s.fadeInTimer := rfl
@[simp] theorem State.longAction_fadeOutTimer (s : State) : s.longAction.fadeOutTimer = s.fadeOutTimer := rfl
@[simp] theorem State.longAction_asleep (s : State) : s.longAction.asleep = s.asleep := rfl
@[simp] theorem State.longAction_zones (s : State) : s.longAction.zones = s.zones := rfl
@[simp] theorem State.longAction_gens (s : State) : s.longAction.gens = s.gens := rfl
@[simp] theorem State.longAction_frame (s : State) : s.longAction.frame = s.frame := rfl
@[simp] theorem State.longAction_dc (s : State) : s.longAction.dc = s.dc := rfl
@[simp] theorem State.longAction_result (s : State) : s.longAction.result = s.result := rfl
@[simp] theorem State.longAction_cmdErr (s : State) : s.longAction.cmdErr = s.cmdErr := rfl
@[simp] theorem State.longAction_frameOut (s : State) : s.longAction.frameOut = s.frameOut := rfl
@[simp] theorem State.longAction_frameValid (s : State) : s.longAction.frameValid = s.frameValid := rfl
@[simp] theorem State.longAction_dcOut (s : State) : s.longAction.dcOut = s.dcOut := rfl
@[simp] theorem State.longAction_dcWrite (s : State) : s.longAction.dcWrite = s.dcWrite := rfl

/-! ## emitDc -/

@[simp] theorem State.emitDc_cfg (s : State) : s.emitDc.cfg = s.cfg := rfl
@[simp] theorem State.emitDc_cmd (s : State) : s.emitDc.cmd = s.cmd := rfl
@[simp] theorem State.emitDc_now (s : State) : s.emitDc.now = s.now := rfl
@[simp] theorem State.emitDc_inMotion (s : State) : s.emitDc.inMotion = s.inMotion := rfl
@[simp] theorem State.emitDc_motionTimer (s : State) : s.emitDc.motionTimer = s.motionTimer := rfl
@[simp] theorem State.emitDc_lastLevel (s : State) : s.emitDc.lastLevel = s.lastLevel := rfl
@[simp] theorem State.emitDc_depressed (s : State) : s.emitDc.depressed = s.depressed := rfl
@[simp] theorem State.emitDc_shortTimer (s : State) : s.emitDc.shortTimer = s.shortTimer := rfl
@[simp] theorem State.emitDc_longTimer (s : State) : s.emitDc.longTimer = s.longTimer := rfl
@[simp] theorem State.emitDc_pressClass (s : State) : s.emitDc.pressClass = s.pressClass := rfl
@[simp] theorem State.emitDc_halfBrightness (s : State) : s.emitDc.halfBrightness = s.halfBrightness := rfl
@[simp] theorem State.emitDc_lockout (s : State) : s.emitDc.lockout = s.lockout := rfl
@[simp] theorem State.emitDc_sched (s : State) : s.emitDc.sched = s.sched := rfl
@[simp] theorem State.emitDc_fadeInTimer (s : State) : s.emitDc.fadeInTimer = s.fadeInTimer := rfl
@[simp] theorem State.emitDc_fadeOutTimer (s : State) : s.emitDc.fadeOutTimer = s.fadeOutTimer := rfl
@[simp] theorem State.emitDc_asleep (s : State) : s.emitDc.asleep = s.asleep := rfl
@[simp] theorem State.emitDc_zones (s : State) : s.emitDc.zones = s.zones := rfl
@[simp] theorem State.emitDc_gens (s : State) : s.emitDc.gens = s.gens := rfl
@[simp] theorem State.emitDc_frame (s : State) : s.emitDc.frame = s.frame := rfl
@[simp] theorem State.emitDc_dc (s : State) : s.emitDc.dc = s.dc := rfl
@[simp] theorem State.emitDc_result (s : State) : s.emitDc.result = s.result := rfl
@[simp] theorem State.emitDc_cmdErr (s : State) : s.emitDc.cmdErr = s.cmdErr := rfl
@[simp] theorem State.emitDc_frameOut (s : State) : s.emitDc.frameOut = s.frameOut := rfl
@[simp] theorem State.emitDc_frameValid (s : State) : s.emitDc.frameValid = s.frameValid := rfl
@[simp] theorem State.emitDc_dcOut (s : State) : s.emitDc.dcOut = s.vector .dc := rfl
@[simp] theorem State.emitDc_dcWrite (s : State) : s.emitDc.dcWrite = true := rfl

/-! ## setZone -/

@[simp] theorem State.setZone_cfg (s : State) (z : Nat) (r : Zone) : (s.setZone z r).cfg = s.cfg := rfl
@[simp] theorem State.setZone_cmd (s : State) (z : Nat) (r : Zone) : (s.setZone z r).cmd = s.cmd := rfl
@[simp] theorem State.setZone_now (s : State) (z : Nat) (r : Zone) : (s.setZone z r).now = s.now := rfl
@[simp] theorem State.setZone_inMotion (s : State) (z : Nat) (r : Zone) : (s.setZone z r).inMotion = s.inMotion := rfl
@[simp] theorem State.setZone_motionTimer (s : State) (z : Nat) (r : Zone) : (s.setZone z r).motionTimer = s.motionTimer := rfl
@[simp] theorem State.setZone_lastLevel (s : State) (z : Nat) (r : Zone) : (s.setZone z r).lastLevel = s.lastLevel := rfl
@[simp] theorem State.setZone_depressed (s : State) (z : Nat) (r : Zone) : (s.setZone z r).depressed = s.depressed := rfl
@[simp] theorem State.setZone_shortTimer (s : State) (z : Nat) (r : Zone) : (s.setZone z r).shortTimer = s.shortTimer := rfl
@[simp] theorem State.setZone_longTimer (s : State) (z : Nat) (r : Zone) : (s.setZone z r).longTimer = s.longTimer := rfl
@[simp] theorem State.setZone_pressClass (s : State) (z : Nat) (r : Zone) : (s.setZone z r).pressClass = s.pressClass := rfl
@[simp] theorem State.setZone_halfBrightness (s : State) (z : Nat) (r : Zone) : (s.setZone z r).halfBrightness = s.halfBrightness := rfl
@[simp] theorem State.setZone_lockout (s : State) (z : Nat) (r : Zone) : (s.setZone z r).lockout = s.lockout := rfl
@[simp] theorem State.setZone_sched (s : State) (z : Nat) (r : Zone) : (s.setZone z r).sched = s.sched := rfl
@[simp] theorem State.setZone_fadeInTimer (s : State) (z : Nat) (r : Zone) : (s.setZone z r).fadeInTimer = s.fadeInTimer := rfl
@[simp] theorem State.setZone_fadeOutTimer (s : State) (z : Nat) (r : Zone) : (s.setZone z r).fadeOutTimer = s.fadeOutTimer := rfl
@[simp] theorem State.setZone_asleep (s : State) (z : Nat) (r : Zone) : (s.setZone z r).asleep = s.asleep := rfl
@[simp] theorem State.setZone_zones (s : State) (z : Nat) (r : Zone) : (s.setZone z r).zones = s.zones.set z r := rfl
@[simp] theorem State.setZone_gens (s : State) (z : Nat) (r : Zone) : (s.setZone z r).gens = s.gens := rfl
@[simp] theorem State.setZone_frame (s : State) (z : Nat) (r : Zone) : (s.setZone z r).frame = s.frame := rfl
@[simp] theorem State.setZone_dc (s : State) (z : Nat) (r : Zone) : (s.setZone z r).dc = s.dc := rfl
@[simp] theorem State.setZone_result (s : State) (z : Nat) (r : Zone) : (s.setZone z r).result = s.result := rfl
@[simp] theorem State.setZone_cmdErr (s : State) (z : Nat) (r : Zone) : (s.setZone z r).cmdErr = s.cmdErr := rfl
@[simp] theorem State.setZone_frameOut (s : State) (z : Nat) (r : Zone) : (s.setZone z r).frameOut = s.frameOut := rfl
@[simp] theorem State.setZone_frameValid (s : State) (z : Nat) (r : Zone) : (s.setZone z r).frameValid = s.frameValid := rfl
@[simp] theorem State.setZone_dcOut (s : State) (z : Nat) (r : Zone) : (s.setZone z r).dcOut = s.dcOut := rfl
@[simp] theorem State.setZone_dcWrite (s : State) (z : Nat) (r : Zone) : (s.setZone z r).dcWrite = s.dcWrite := rfl

/-! ## setGen -/

@[simp] theorem State.setGen_cfg (s : State) (g : Nat) (r : Gen) : (s.setGen g r).cfg = s.cfg := rfl
@[simp] theorem State.setGen_cmd (s : State) (g : Nat) (r : Gen) : (s.setGen g r).cmd = s.cmd := rfl
@[simp] theorem State.setGen_now (s : State) (g : Nat) (r : Gen) : (s.setGen g r).now = s.now := rfl
@[simp] theorem State.setGen_inMotion (s : State) (g : Nat) (r : Gen) : (s.setGen g r).inMotion = s.inMotion := rfl
@[simp] theorem State.setGen_motionTimer (s : State) (g : Nat) (r : Gen) : (s.setGen g r).motionTimer = s.motionTimer := rfl
@[simp] theorem State.setGen_lastLevel (s : State) (g : Nat) (r : Gen) : (s.setGen g r).lastLevel = s.lastLevel := rfl
@[simp] theorem State.setGen_depressed (s : State) (g : Nat) (r : Gen) : (s.setGen g r).depressed = s.depressed := rfl
@[simp] theorem State.setGen_shortTimer (s : State) (g : Nat) (r : Gen) : (s.setGen g r).shortTimer = s.shortTimer := rfl
@[simp] theorem State.setGen_longTimer (s : State) (g : Nat) (r : Gen) : (s.setGen g r).longTimer = s.longTimer := rfl
@[simp] theorem State.setGen_pressClass (s : State) (g : Nat) (r : Gen) : (s.setGen g r).pressClass = s.pressClass := rfl
@[simp] theorem State.setGen_halfBrightness (s : State) (g : Nat) (r : Gen) : (s.setGen g r).halfBrightness = s.halfBrightness := rfl
@[simp] theorem State.setGen_lockout (s : State) (g : Nat) (r : Gen) : (s.setGen g r).lockout = s.lockout := rfl
@[simp] theorem State.setGen_sched (s : State) (g : Nat) (r : Gen) : (s.setGen g r).sched = s.sched := rfl
@[simp] theorem State.setGen_fadeInTimer (s : State) (g : Nat) (r : Gen) : (s.setGen g r).fadeInTimer = s.fadeInTimer := rfl
@[simp] theorem State.setGen_fadeOutTimer (s : State) (g : Nat) (r : Gen) : (s.setGen g r).fadeOutTimer = s.fadeOutTimer := rfl
@[simp] theorem State.setGen_asleep (s : State) (g : Nat) (r : Gen) : (s.setGen g r).asleep = s.asleep := rfl
@[simp] theorem State.setGen_zones (s : State) (g : Nat) (r : Gen) : (s.setGen g r).zones = s.zones := rfl
@[simp] theorem State.setGen_gens (s : State) (g : Nat) (r : Gen) : (s.setGen g r).gens = s.gens.set g r := rfl
@[simp] theorem State.setGen_frame (s : State) (g : Nat) (r : Gen) : (s.setGen g r).frame = s.frame := rfl
@[simp] theorem State.setGen_dc (s : State) (g : Nat) (r : Gen) : (s.setGen g r).dc = s.dc := rfl
@[simp] theorem State.setGen_result (s : State) (g : Nat) (r : Gen) : (s.setGen g r).result = s.result := rfl
@[simp] theorem State.setGen_cmdErr (s : State) (g : Nat) (r : Gen) : (s.setGen g r).cmdErr = s.cmdErr := rfl
@[simp] theorem State.setGen_frameOut (s : State) (g : Nat) (r : Gen) : (s.setGen g r).frameOut = s.frameOut := rfl
@[simp] theorem State.setGen_frameValid (s : State) (g : Nat) (r : Gen) : (s.setGen g r).frameValid = s.frameValid := rfl
@[simp] theorem State.setGen_dcOut (s : State) (g : Nat) (r : Gen) : (s.setGen g r).dcOut = s.dcOut := rfl
@[simp] theorem State.setGen_dcWrite (s : State) (g : Nat) (r : Gen) : (s.setGen g r).dcWrite = s.dcWrite := rfl

/-! ## memWrite_frame -/

@[simp] theorem State.memWrite_frame_cfg (s : State) (ch : Nat) (v : Half) : (s.memWrite .frame ch v).cfg = s.cfg := rfl
@[simp] theorem State.memWrite_frame_cmd (s : State) (ch : Nat) (v : Half) : (s.memWrite .frame ch v).cmd = s.cmd := rfl
@[simp] theorem State.memWrite_frame_now (s : State) (ch : Nat) (v : Half) : (s.memWrite .frame ch v).now = s.now := rfl
@[simp] theorem State.memWrite_frame_inMotion (s : State) (ch : Nat) (v : Half) : (s.memWrite .frame ch v).inMotion = s.inMotion := rfl
@[simp] theorem State.memWrite_frame_motionTimer (s : State) (ch : Nat) (v : Half) : (s.memWrite .frame ch v).motionTimer = s.motionTimer := rfl
@[simp] theorem State.memWrite_frame_lastLevel (s : State) (ch : Nat) (v : Half) : (s.memWrite .frame ch v).lastLevel = s.lastLevel := rfl
@[simp] theorem State.memWrite_frame_depressed (s : State) (ch : Nat) (v : Half) : (s.memWrite .frame ch v).depressed = s.depressed := rfl
@[simp] theorem State.memWrite_frame_shortTimer (s : State) (ch : Nat) (v : Half) : (s.memWrite .frame ch v).shortTimer = s.shortTimer := rfl
@[simp] theorem State.memWrite_frame_longTimer (s : State) (ch : Nat) (v : Half) : (s.memWrite .frame ch v).longTimer = s.longTimer := rfl
@[simp] theorem State.memWrite_frame_pressClass (s : State) (ch : Nat) (v : Half) : (s.memWrite .frame ch v).pressClass = s.pressClass := rfl
@[simp] theorem State.memWrite_frame_halfBrightness (s : State) (ch : Nat) (v : Half) : (s.memWrite .frame ch v).halfBrightness = s.halfBrightness := rfl
@[simp] theorem State.memWrite_frame_lockout (s : State) (ch : Nat) (v : Half) : (s.memWrite .frame ch v).lockout = s.lockout := rfl
@[simp] theorem State.memWrite_frame_sched (s : State) (ch : Nat) (v : Half) : (s.memWrite .frame ch v).sched = s.sched := rfl
@[simp] theorem State.memWrite_frame_fadeInTimer (s : State) (ch : Nat) (v : Half) : (s.memWrite .frame ch v).fadeInTimer = s.fadeInTimer := rfl
@[simp] theorem State.memWrite_frame_fadeOutTimer (s : State) (ch : Nat) (v : Half) : (s.memWrite .frame ch v).fadeOutTimer = s.fadeOutTimer := rfl
@[simp] theorem State.memWrite_frame_asleep (s : State) (ch : Nat) (v : Half) : (s.memWrite .frame ch v).asleep = s.asleep := rfl
@[simp] theorem State.memWrite_frame_zones (s : State) (ch : Nat) (v : Half) : (s.memWrite .frame ch v).zones = s.zones := rfl
@[simp] theorem State.memWrite_frame_gens (s : State) (ch : Nat) (v : Half) : (s.memWrite .frame ch v).gens = s.gens := rfl
@[simp] theorem State.memWrite_frame_frame (s : State) (ch : Nat) (v : Half) : (s.memWrite .frame ch v).frame = Memory.write (unlisted s.cfg .frame) s.frame ch v := rfl
@[simp] theorem State.memWrite_frame_dc (s : State) (ch : Nat) (v : Half) : (s.memWrite .frame ch v).dc = s.dc := rfl
@[simp] theorem State.memWrite_frame_result (s : State) (ch : Nat) (v : Half) : (s.memWrite .frame ch v).result = s.result := rfl
@[simp] theorem State.memWrite_frame_cmdErr (s : State) (ch : Nat) (v : Half) : (s.memWrite .frame ch v).cmdErr = s.cmdErr := rfl
@[simp] theorem State.memWrite_frame_frameOut (s : State) (ch : Nat) (v : Half) : (s.memWrite .frame ch v).frameOut = s.frameOut := rfl
@[simp] theorem State.memWrite_frame_frameValid (s : State) (ch : Nat) (v : Half) : (s.memWrite .frame ch v).frameValid = s.frameValid := rfl
@[simp] theorem State.memWrite_frame_dcOut (s : State) (ch : Nat) (v : Half) : (s.memWrite .frame ch v).dcOut = s.dcOut := rfl
@[simp] theorem State.memWrite_frame_dcWrite (s : State) (ch : Nat) (v : Half) : (s.memWrite .frame ch v).dcWrite = s.dcWrite := rfl

/-! ## memWrite_dc -/

@[simp] theorem State.memWrite_dc_cfg (s : State) (ch : Nat) (v : Half) : (s.memWrite .dc ch v).cfg = s.cfg := rfl
@[simp] theorem State.memWrite_dc_cmd (s : State) (ch : Nat) (v : Half) : (s.memWrite .dc ch v).cmd = s.cmd := rfl
@[simp] theorem State.memWrite_dc_now (s : State) (ch : Nat) (v : Half) : (s.memWrite .dc ch v).now = s.now := rfl
@[simp] theorem State.memWrite_dc_inMotion (s : State) (ch : Nat) (v : Half) : (s.memWrite .dc ch v).inMotion = s.inMotion := rfl
@[simp] theorem State.memWrite_dc_motionTimer (s : State) (ch : Nat) (v : Half) : (s.memWrite .dc ch v).motionTimer = s.motionTimer := rfl
@[simp] theorem State.memWrite_dc_lastLevel (s : State) (ch : Nat) (v : Half) : (s.memWrite .dc ch v).lastLevel = s.lastLevel := rfl
@[simp] theorem State.memWrite_dc_depressed (s : State) (ch : Nat) (v : Half) : (s.memWrite .dc ch v).depressed = s.depressed := rfl
@[simp] theorem State.memWrite_dc_shortTimer (s : State) (ch : Nat) (v : Half) : (s.memWrite .dc ch v).shortTimer = s.shortTimer := rfl
@[simp] theorem State.memWrite_dc_longTimer (s : State) (ch : Nat) (v : Half) : (s.memWrite .dc ch v).longTimer = s.longTimer := rfl
@[simp] theorem State.memWrite_dc_pressClass (s : State) (ch : Nat) (v : Half) : (s.memWrite .dc ch v).pressClass = s.pressClass := rfl
@[simp] theorem State.memWrite_dc_halfBrightness (s : State) (ch : Nat) (v : Half) : (s.memWrite .dc ch v).halfBrightness = s.halfBrightness := rfl
@[simp] theorem State.memWrite_dc_lockout (s : State) (ch : Nat) (v : Half) : (s.memWrite .dc ch v).lockout = s.lockout := rfl
@[simp] theorem State.memWrite_dc_sched (s : State) (ch : Nat) (v : Half) : (s.memWrite .dc ch v).sched = s.sched := rfl
@[simp] theorem State.memWrite_dc_fadeInTimer (s : State) (ch : Nat) (v : Half) : (s.memWrite .dc ch v).fadeInTimer = s.fadeInTimer := rfl
@[simp] theorem State.memWrite_dc_fadeOutTimer (s : State) (ch : Nat) (v : Half) : (s.memWrite .dc ch v).fadeOutTimer = s.fadeOutTimer := rfl
@[simp] theorem State.memWrite_dc_asleep (s : State) (ch : Nat) (v : Half) : (s.memWrite .dc ch v).asleep = s.asleep := rfl
@[simp] theorem State.memWrite_dc_zones (s : State) (ch : Nat) (v : Half) : (s.memWrite .dc ch v).zones = s.zones := rfl
@[simp] theorem State.memWrite_dc_gens (s : State) (ch : Nat) (v : Half) : (s.memWrite .dc ch v).gens = s.gens := rfl
@[simp] theorem State.memWrite_dc_frame (s : State) (ch : Nat) (v : Half) : (s.memWrite .dc ch v).frame = s.frame := rfl
@[simp] theorem State.memWrite_dc_dc (s : State) (ch : Nat) (v : Half) : (s.memWrite .dc ch v).dc = Memory.write (unlisted s.cfg .dc) s.dc ch v := rfl
@[simp] theorem State.memWrite_dc_result (s : State) (ch : Nat) (v : Half) : (s.memWrite .dc ch v).result = s.result := rfl
@[simp] theorem State.memWrite_dc_cmdErr (s : State) (ch : Nat) (v : Half) : (s.memWrite .dc ch v).cmdErr = s.cmdErr := rfl
@[simp] theorem State.memWrite_dc_frameOut (s : State) (ch : Nat) (v : Half) : (s.memWrite .dc ch v).frameOut = s.frameOut := rfl
@[simp] theorem State.memWrite_dc_frameValid (s : State) (ch : Nat) (v : Half) : (s.memWrite .dc ch v).frameValid = s.frameValid := rfl
@[simp] theorem State.memWrite_dc_dcOut (s : State) (ch : Nat) (v : Half) : (s.memWrite .dc ch v).dcOut = s.dcOut := rfl
@[simp] theorem State.memWrite_dc_dcWrite (s : State) (ch : Nat) (v : Half) : (s.memWrite .dc ch v).dcWrite = s.dcWrite := rfl

/-! ## resetOf -/

@[simp] theorem State.resetOf_cfg (c : Config) (input : List Word) : (State.resetOf c input).cfg = c := rfl
@[simp] theorem State.resetOf_cmd (c : Config) (input : List Word) : (State.resetOf c input).cmd = input := rfl
@[simp] theorem State.resetOf_now (c : Config) (input : List Word) : (State.resetOf c input).now = 0 := rfl
@[simp] theorem State.resetOf_inMotion (c : Config) (input : List Word) : (State.resetOf c input).inMotion = false := rfl
@[simp] theorem State.resetOf_motionTimer (c : Config) (input : List Word) : (State.resetOf c input).motionTimer = 0 := rfl
@[simp] theorem State.resetOf_lastLevel (c : Config) (input : List Word) : (State.resetOf c input).lastLevel = (!c.closed) := rfl
@[simp] theorem State.resetOf_depressed (c : Config) (input : List Word) : (State.resetOf c input).depressed = false := rfl
@[simp] theorem State.resetOf_shortTimer (c : Config) (input : List Word) : (State.resetOf c input).shortTimer = 0 := rfl
@[simp] theorem State.resetOf_longTimer (c : Config) (input : List Word) : (State.resetOf c input).longTimer = 0 := rfl
@[simp] theorem State.resetOf_pressClass (c : Config) (input : List Word) : (State.resetOf c input).pressClass = .none := rfl
@[simp] theorem State.resetOf_halfBrightness (c : Config) (input : List Word) : (State.resetOf c input).halfBrightness = false := rfl
@[simp] theorem State.resetOf_lockout (c : Config) (input : List Word) : (State.resetOf c input).lockout = false := rfl
@[simp] theorem State.resetOf_sched (c : Config) (input : List Word) : (State.resetOf c input).sched = .idle := rfl
@[simp] theorem State.resetOf_fadeInTimer (c : Config) (input : List Word) : (State.resetOf c input).fadeInTimer = 0 := rfl
@[simp] theorem State.resetOf_fadeOutTimer (c : Config) (input : List Word) : (State.resetOf c input).fadeOutTimer = 0 := rfl
@[simp] theorem State.resetOf_asleep (c : Config) (input : List Word) : (State.resetOf c input).asleep = false := rfl
@[simp] theorem State.resetOf_zones (c : Config) (input : List Word) : (State.resetOf c input).zones = List.replicate c.nz Zone.zero := rfl
@[simp] theorem State.resetOf_gens (c : Config) (input : List Word) : (State.resetOf c input).gens = List.replicate c.ng Gen.zero := rfl
@[simp] theorem State.resetOf_frame (c : Config) (input : List Word) : (State.resetOf c input).frame = [] := rfl
@[simp] theorem State.resetOf_dc (c : Config) (input : List Word) : (State.resetOf c input).dc = [] := rfl
@[simp] theorem State.resetOf_result (c : Config) (input : List Word) : (State.resetOf c input).result = 0 := rfl
@[simp] theorem State.resetOf_cmdErr (c : Config) (input : List Word) : (State.resetOf c input).cmdErr = false := rfl
@[simp] theorem State.resetOf_frameOut (c : Config) (input : List Word) : (State.resetOf c input).frameOut = List.replicate c.n 0 := rfl
@[simp] theorem State.resetOf_frameValid (c : Config) (input : List Word) : (State.resetOf c input).frameValid = false := rfl
@[simp] theorem State.resetOf_dcOut (c : Config) (input : List Word) : (State.resetOf c input).dcOut = (List.range c.n).map c.dcFullAt := rfl
@[simp] theorem State.resetOf_dcWrite (c : Config) (input : List Word) : (State.resetOf c input).dcWrite = true := rfl

end Sys2Proof.Machine
end

