-- ==== Sys2Proof/Laws/Ops.lean ====
section
/-! SUPPORT. Laws/Ops.lean: what each shared operation can do, said once. -/

namespace Sys2Proof.Machine

/-! ## Loops -/

/-- What every round of a loop keeps, the loop keeps. -/
theorem foldl_keeps {α β γ : Type} (f : α → γ) (g : α → β → α) (h : ∀ a b, f (g a b) = f a) (l : List β) (a : α) :
    f (l.foldl g a) = f a := by
  induction l generalizing a with
  | nil => rfl
  | cons b l ih => rw [List.foldl_cons, ih, h]

/-- A property that every round of a loop keeps holds after the loop. -/
theorem foldl_invariant {α β : Type} (P : α → Prop) (g : α → β → α) (l : List β) (a : α)
    (h : ∀ a, ∀ b ∈ l, P a → P (g a b)) (ha : P a) : P (l.foldl g a) := by
  induction l generalizing a with
  | nil => exact ha
  | cons b l ih => exact ih _ (fun a b' hb => h a b' (by simp [hb])) (h a b (by simp) ha)

/-! ## Arithmetic -/

@[simp] theorem dec_toNat (t : Half) : (dec t).toNat = t.toNat - 1 := by
  have := t.isLt
  simp only [dec, BitVec.toNat_ofNat]
  omega

@[simp] theorem clampB_toNat (c : Config) (v : Half) : (clampB c v).toNat = min v.toNat c.maxLevel.toNat := by
  have := v.isLt
  simp only [clampB, BitVec.toNat_ofNat]
  omega

/-! ## How an operation is performed -/

theorem perform_eq (s : State) (body : State → State) : perform s body = .next (body s.beginOp) := rfl

theorem performGen_inRange (idx : BitVec 8) (s : State) (body : Nat → State → State) (h : idx.toNat < s.cfg.ng) :
    performGen idx s body = .next (body idx.toNat s.beginOp) := if_pos h

theorem performGen_outOfRange (idx : BitVec 8) (s : State) (body : Nat → State → State) (h : s.cfg.ng ≤ idx.toNat) :
    performGen idx s body = .next s.raiseRefused := if_neg (by omega)

theorem performZone_inRange (idx : BitVec 8) (s : State) (body : Nat → State → State) (h : idx.toNat < s.cfg.nz) :
    performZone idx s body = .next (body idx.toNat s.beginOp) := if_pos h

theorem performZone_outOfRange (idx : BitVec 8) (s : State) (body : Nat → State → State) (h : s.cfg.nz ≤ idx.toNat) :
    performZone idx s body = .next s.raiseRefused := if_neg (by omega)

/-! ## Address spaces -/

theorem State.memRead_memWrite_same (s : State) (sp : Space) (ch : Nat) (v : Half)
    (h : Memory.wf (unlisted s.cfg sp) (s.space sp)) : (s.memWrite sp ch v).memRead sp ch = v := by
  cases sp <;> exact Memory.read_write_same _ _ ch v h.1

theorem State.memRead_memWrite_other (s : State) (sp : Space) (ch a : Nat) (v : Half) (h : a ≠ ch) :
    (s.memWrite sp ch v).memRead sp a = s.memRead sp a := by
  cases sp <;> exact Memory.read_write_other _ _ ch a v h

@[simp] theorem State.memRead_memWrite_dc_of_frame (s : State) (ch a : Nat) (v : Half) :
    (s.memWrite .frame ch v).memRead .dc a = s.memRead .dc a := rfl

@[simp] theorem State.memRead_memWrite_frame_of_dc (s : State) (ch a : Nat) (v : Half) :
    (s.memWrite .dc ch v).memRead .frame a = s.memRead .frame a := rfl

/-- Every write keeps both address spaces in canonical form and within `N`. -/
theorem State.memWrite_spaceOk (s : State) (sp sp' : Space) (ch : Nat) (v : Half) (hc : ch < s.cfg.n)
    (h : s.spaceOk sp') : (s.memWrite sp ch v).spaceOk sp' := by
  cases sp <;> cases sp'
  · exact ⟨Memory.write_wf _ _ ch v h.1, Memory.write_bound _ _ ch _ v hc h.2⟩
  · exact h
  · exact h
  · exact ⟨Memory.write_wf _ _ ch v h.1, Memory.write_bound _ _ ch _ v hc h.2⟩

/-- A read depends on the configuration and the space alone. -/
theorem State.memRead_congr (s t : State) (sp : Space) (hc : t.cfg = s.cfg) (hs : t.space sp = s.space sp) (ch : Nat) :
    t.memRead sp ch = s.memRead sp ch := by
  simp only [State.memRead, hc, hs]

/-! ## Register files -/

theorem State.zone_setZone_same (s : State) (z : Nat) (r : Zone) (h : z < s.zones.length) :
    (s.setZone z r).zone z = r := by
  simp [State.zone, State.setZone, List.getD_eq_getElem?_getD, h]

theorem State.zone_setZone_other (s : State) (z y : Nat) (r : Zone) (h : y ≠ z) :
    (s.setZone z r).zone y = s.zone y := by
  simp [State.zone, State.setZone, List.getD_eq_getElem?_getD, h.symm]

theorem State.gen_setGen_same (s : State) (g : Nat) (r : Gen) (h : g < s.gens.length) :
    (s.setGen g r).gen g = r := by
  simp [State.gen, State.setGen, List.getD_eq_getElem?_getD, h]

theorem State.gen_setGen_other (s : State) (g y : Nat) (r : Gen) (h : y ≠ g) :
    (s.setGen g r).gen y = s.gen y := by
  simp [State.gen, State.setGen, List.getD_eq_getElem?_getD, h.symm]

@[simp] theorem State.gen_setZone (s : State) (z g : Nat) (r : Zone) : (s.setZone z r).gen g = s.gen g := rfl

@[simp] theorem State.zone_setGen (s : State) (z g : Nat) (r : Gen) : (s.setGen g r).zone z = s.zone z := rfl

/-- Zone `z` after TICK (R210). -/
theorem State.tick_zone (s : State) (z : Nat) (h : z < s.zones.length) : s.tick.zone z = (s.zone z).tick := by
  simp [State.tick, State.zone, List.getD_eq_getElem?_getD, h]

/-- Generator `g` after TICK (R210). -/
theorem State.tick_gen (s : State) (g : Nat) (h : g < s.gens.length) :
    s.tick.gen g = (s.gen g).tick (s.cfg.genCfg g) := by
  simp [State.tick, State.gen, List.getD_eq_getElem?_getD, h]

end Sys2Proof.Machine
end

