-- ==== Sys2Proof/Laws/Frames.lean ====
section
/-! SUPPORT. Laws/Frames.lean: what the parts of the operations leave unchanged: one lemma for each field that a part
does not write. -/

namespace Sys2Proof.Machine

/-! ## commit writes frame only -/

@[simp] theorem State.commit_cfg (s : State) (z : Nat) (v : Half) : (s.commit z v).cfg = s.cfg := foldl_keeps State.cfg _ (fun _ _ => by rfl) _ _
@[simp] theorem State.commit_cmd (s : State) (z : Nat) (v : Half) : (s.commit z v).cmd = s.cmd := foldl_keeps State.cmd _ (fun _ _ => by rfl) _ _
@[simp] theorem State.commit_now (s : State) (z : Nat) (v : Half) : (s.commit z v).now = s.now := foldl_keeps State.now _ (fun _ _ => by rfl) _ _
@[simp] theorem State.commit_inMotion (s : State) (z : Nat) (v : Half) : (s.commit z v).inMotion = s.inMotion := foldl_keeps State.inMotion _ (fun _ _ => by rfl) _ _
@[simp] theorem State.commit_motionTimer (s : State) (z : Nat) (v : Half) : (s.commit z v).motionTimer = s.motionTimer := foldl_keeps State.motionTimer _ (fun _ _ => by rfl) _ _
@[simp] theorem State.commit_lastLevel (s : State) (z : Nat) (v : Half) : (s.commit z v).lastLevel = s.lastLevel := foldl_keeps State.lastLevel _ (fun _ _ => by rfl) _ _
@[simp] theorem State.commit_depressed (s : State) (z : Nat) (v : Half) : (s.commit z v).depressed = s.depressed := foldl_keeps State.depressed _ (fun _ _ => by rfl) _ _
@[simp] theorem State.commit_shortTimer (s : State) (z : Nat) (v : Half) : (s.commit z v).shortTimer = s.shortTimer := foldl_keeps State.shortTimer _ (fun _ _ => by rfl) _ _
@[simp] theorem State.commit_longTimer (s : State) (z : Nat) (v : Half) : (s.commit z v).longTimer = s.longTimer := foldl_keeps State.longTimer _ (fun _ _ => by rfl) _ _
@[simp] theorem State.commit_pressClass (s : State) (z : Nat) (v : Half) : (s.commit z v).pressClass = s.pressClass := foldl_keeps State.pressClass _ (fun _ _ => by rfl) _ _
@[simp] theorem State.commit_halfBrightness (s : State) (z : Nat) (v : Half) : (s.commit z v).halfBrightness = s.halfBrightness := foldl_keeps State.halfBrightness _ (fun _ _ => by rfl) _ _
@[simp] theorem State.commit_lockout (s : State) (z : Nat) (v : Half) : (s.commit z v).lockout = s.lockout := foldl_keeps State.lockout _ (fun _ _ => by rfl) _ _
@[simp] theorem State.commit_sched (s : State) (z : Nat) (v : Half) : (s.commit z v).sched = s.sched := foldl_keeps State.sched _ (fun _ _ => by rfl) _ _
@[simp] theorem State.commit_fadeInTimer (s : State) (z : Nat) (v : Half) : (s.commit z v).fadeInTimer = s.fadeInTimer := foldl_keeps State.fadeInTimer _ (fun _ _ => by rfl) _ _
@[simp] theorem State.commit_fadeOutTimer (s : State) (z : Nat) (v : Half) : (s.commit z v).fadeOutTimer = s.fadeOutTimer := foldl_keeps State.fadeOutTimer _ (fun _ _ => by rfl) _ _
@[simp] theorem State.commit_asleep (s : State) (z : Nat) (v : Half) : (s.commit z v).asleep = s.asleep := foldl_keeps State.asleep _ (fun _ _ => by rfl) _ _
@[simp] theorem State.commit_zones (s : State) (z : Nat) (v : Half) : (s.commit z v).zones = s.zones := foldl_keeps State.zones _ (fun _ _ => by rfl) _ _
@[simp] theorem State.commit_gens (s : State) (z : Nat) (v : Half) : (s.commit z v).gens = s.gens := foldl_keeps State.gens _ (fun _ _ => by rfl) _ _
@[simp] theorem State.commit_dc (s : State) (z : Nat) (v : Half) : (s.commit z v).dc = s.dc := foldl_keeps State.dc _ (fun _ _ => by rfl) _ _
@[simp] theorem State.commit_result (s : State) (z : Nat) (v : Half) : (s.commit z v).result = s.result := foldl_keeps State.result _ (fun _ _ => by rfl) _ _
@[simp] theorem State.commit_cmdErr (s : State) (z : Nat) (v : Half) : (s.commit z v).cmdErr = s.cmdErr := foldl_keeps State.cmdErr _ (fun _ _ => by rfl) _ _
@[simp] theorem State.commit_frameOut (s : State) (z : Nat) (v : Half) : (s.commit z v).frameOut = s.frameOut := foldl_keeps State.frameOut _ (fun _ _ => by rfl) _ _
@[simp] theorem State.commit_frameValid (s : State) (z : Nat) (v : Half) : (s.commit z v).frameValid = s.frameValid := foldl_keeps State.frameValid _ (fun _ _ => by rfl) _ _
@[simp] theorem State.commit_dcOut (s : State) (z : Nat) (v : Half) : (s.commit z v).dcOut = s.dcOut := foldl_keeps State.dcOut _ (fun _ _ => by rfl) _ _
@[simp] theorem State.commit_dcWrite (s : State) (z : Nat) (v : Half) : (s.commit z v).dcWrite = s.dcWrite := foldl_keeps State.dcWrite _ (fun _ _ => by rfl) _ _

/-! ## genStart writes gens only -/

@[simp] theorem State.genStart_cfg (s : State) (g : Nat) : (s.genStart g).cfg = s.cfg := rfl
@[simp] theorem State.genStart_cmd (s : State) (g : Nat) : (s.genStart g).cmd = s.cmd := rfl
@[simp] theorem State.genStart_now (s : State) (g : Nat) : (s.genStart g).now = s.now := rfl
@[simp] theorem State.genStart_inMotion (s : State) (g : Nat) : (s.genStart g).inMotion = s.inMotion := rfl
@[simp] theorem State.genStart_motionTimer (s : State) (g : Nat) : (s.genStart g).motionTimer = s.motionTimer := rfl
@[simp] theorem State.genStart_lastLevel (s : State) (g : Nat) : (s.genStart g).lastLevel = s.lastLevel := rfl
@[simp] theorem State.genStart_depressed (s : State) (g : Nat) : (s.genStart g).depressed = s.depressed := rfl
@[simp] theorem State.genStart_shortTimer (s : State) (g : Nat) : (s.genStart g).shortTimer = s.shortTimer := rfl
@[simp] theorem State.genStart_longTimer (s : State) (g : Nat) : (s.genStart g).longTimer = s.longTimer := rfl
@[simp] theorem State.genStart_pressClass (s : State) (g : Nat) : (s.genStart g).pressClass = s.pressClass := rfl
@[simp] theorem State.genStart_halfBrightness (s : State) (g : Nat) : (s.genStart g).halfBrightness = s.halfBrightness := rfl
@[simp] theorem State.genStart_lockout (s : State) (g : Nat) : (s.genStart g).lockout = s.lockout := rfl
@[simp] theorem State.genStart_sched (s : State) (g : Nat) : (s.genStart g).sched = s.sched := rfl
@[simp] theorem State.genStart_fadeInTimer (s : State) (g : Nat) : (s.genStart g).fadeInTimer = s.fadeInTimer := rfl
@[simp] theorem State.genStart_fadeOutTimer (s : State) (g : Nat) : (s.genStart g).fadeOutTimer = s.fadeOutTimer := rfl
@[simp] theorem State.genStart_asleep (s : State) (g : Nat) : (s.genStart g).asleep = s.asleep := rfl
@[simp] theorem State.genStart_zones (s : State) (g : Nat) : (s.genStart g).zones = s.zones := rfl
@[simp] theorem State.genStart_frame (s : State) (g : Nat) : (s.genStart g).frame = s.frame := rfl
@[simp] theorem State.genStart_dc (s : State) (g : Nat) : (s.genStart g).dc = s.dc := rfl
@[simp] theorem State.genStart_result (s : State) (g : Nat) : (s.genStart g).result = s.result := rfl
@[simp] theorem State.genStart_cmdErr (s : State) (g : Nat) : (s.genStart g).cmdErr = s.cmdErr := rfl
@[simp] theorem State.genStart_frameOut (s : State) (g : Nat) : (s.genStart g).frameOut = s.frameOut := rfl
@[simp] theorem State.genStart_frameValid (s : State) (g : Nat) : (s.genStart g).frameValid = s.frameValid := rfl
@[simp] theorem State.genStart_dcOut (s : State) (g : Nat) : (s.genStart g).dcOut = s.dcOut := rfl
@[simp] theorem State.genStart_dcWrite (s : State) (g : Nat) : (s.genStart g).dcWrite = s.dcWrite := rfl

/-! ## genStop writes gens only -/

@[simp] theorem State.genStop_cfg (s : State) (g : Nat) : (s.genStop g).cfg = s.cfg := rfl
@[simp] theorem State.genStop_cmd (s : State) (g : Nat) : (s.genStop g).cmd = s.cmd := rfl
@[simp] theorem State.genStop_now (s : State) (g : Nat) : (s.genStop g).now = s.now := rfl
@[simp] theorem State.genStop_inMotion (s : State) (g : Nat) : (s.genStop g).inMotion = s.inMotion := rfl
@[simp] theorem State.genStop_motionTimer (s : State) (g : Nat) : (s.genStop g).motionTimer = s.motionTimer := rfl
@[simp] theorem State.genStop_lastLevel (s : State) (g : Nat) : (s.genStop g).lastLevel = s.lastLevel := rfl
@[simp] theorem State.genStop_depressed (s : State) (g : Nat) : (s.genStop g).depressed = s.depressed := rfl
@[simp] theorem State.genStop_shortTimer (s : State) (g : Nat) : (s.genStop g).shortTimer = s.shortTimer := rfl
@[simp] theorem State.genStop_longTimer (s : State) (g : Nat) : (s.genStop g).longTimer = s.longTimer := rfl
@[simp] theorem State.genStop_pressClass (s : State) (g : Nat) : (s.genStop g).pressClass = s.pressClass := rfl
@[simp] theorem State.genStop_halfBrightness (s : State) (g : Nat) : (s.genStop g).halfBrightness = s.halfBrightness := rfl
@[simp] theorem State.genStop_lockout (s : State) (g : Nat) : (s.genStop g).lockout = s.lockout := rfl
@[simp] theorem State.genStop_sched (s : State) (g : Nat) : (s.genStop g).sched = s.sched := rfl
@[simp] theorem State.genStop_fadeInTimer (s : State) (g : Nat) : (s.genStop g).fadeInTimer = s.fadeInTimer := rfl
@[simp] theorem State.genStop_fadeOutTimer (s : State) (g : Nat) : (s.genStop g).fadeOutTimer = s.fadeOutTimer := rfl
@[simp] theorem State.genStop_asleep (s : State) (g : Nat) : (s.genStop g).asleep = s.asleep := rfl
@[simp] theorem State.genStop_zones (s : State) (g : Nat) : (s.genStop g).zones = s.zones := rfl
@[simp] theorem State.genStop_frame (s : State) (g : Nat) : (s.genStop g).frame = s.frame := rfl
@[simp] theorem State.genStop_dc (s : State) (g : Nat) : (s.genStop g).dc = s.dc := rfl
@[simp] theorem State.genStop_result (s : State) (g : Nat) : (s.genStop g).result = s.result := rfl
@[simp] theorem State.genStop_cmdErr (s : State) (g : Nat) : (s.genStop g).cmdErr = s.cmdErr := rfl
@[simp] theorem State.genStop_frameOut (s : State) (g : Nat) : (s.genStop g).frameOut = s.frameOut := rfl
@[simp] theorem State.genStop_frameValid (s : State) (g : Nat) : (s.genStop g).frameValid = s.frameValid := rfl
@[simp] theorem State.genStop_dcOut (s : State) (g : Nat) : (s.genStop g).dcOut = s.dcOut := rfl
@[simp] theorem State.genStop_dcWrite (s : State) (g : Nat) : (s.genStop g).dcWrite = s.dcWrite := rfl

/-! ## genStep writes gens, frame only -/

@[simp] theorem State.genStep_cfg (s : State) (g : Nat) : (s.genStep g).cfg = s.cfg := foldl_keeps State.cfg _ (fun _ _ => by exact State.commit_cfg _ _ _) _ _
@[simp] theorem State.genStep_cmd (s : State) (g : Nat) : (s.genStep g).cmd = s.cmd := foldl_keeps State.cmd _ (fun _ _ => by exact State.commit_cmd _ _ _) _ _
@[simp] theorem State.genStep_now (s : State) (g : Nat) : (s.genStep g).now = s.now := foldl_keeps State.now _ (fun _ _ => by exact State.commit_now _ _ _) _ _
@[simp] theorem State.genStep_inMotion (s : State) (g : Nat) : (s.genStep g).inMotion = s.inMotion := foldl_keeps State.inMotion _ (fun _ _ => by exact State.commit_inMotion _ _ _) _ _
@[simp] theorem State.genStep_motionTimer (s : State) (g : Nat) : (s.genStep g).motionTimer = s.motionTimer := foldl_keeps State.motionTimer _ (fun _ _ => by exact State.commit_motionTimer _ _ _) _ _
@[simp] theorem State.genStep_lastLevel (s : State) (g : Nat) : (s.genStep g).lastLevel = s.lastLevel := foldl_keeps State.lastLevel _ (fun _ _ => by exact State.commit_lastLevel _ _ _) _ _
@[simp] theorem State.genStep_depressed (s : State) (g : Nat) : (s.genStep g).depressed = s.depressed := foldl_keeps State.depressed _ (fun _ _ => by exact State.commit_depressed _ _ _) _ _
@[simp] theorem State.genStep_shortTimer (s : State) (g : Nat) : (s.genStep g).shortTimer = s.shortTimer := foldl_keeps State.shortTimer _ (fun _ _ => by exact State.commit_shortTimer _ _ _) _ _
@[simp] theorem State.genStep_longTimer (s : State) (g : Nat) : (s.genStep g).longTimer = s.longTimer := foldl_keeps State.longTimer _ (fun _ _ => by exact State.commit_longTimer _ _ _) _ _
@[simp] theorem State.genStep_pressClass (s : State) (g : Nat) : (s.genStep g).pressClass = s.pressClass := foldl_keeps State.pressClass _ (fun _ _ => by exact State.commit_pressClass _ _ _) _ _
@[simp] theorem State.genStep_halfBrightness (s : State) (g : Nat) : (s.genStep g).halfBrightness = s.halfBrightness := foldl_keeps State.halfBrightness _ (fun _ _ => by exact State.commit_halfBrightness _ _ _) _ _
@[simp] theorem State.genStep_lockout (s : State) (g : Nat) : (s.genStep g).lockout = s.lockout := foldl_keeps State.lockout _ (fun _ _ => by exact State.commit_lockout _ _ _) _ _
@[simp] theorem State.genStep_sched (s : State) (g : Nat) : (s.genStep g).sched = s.sched := foldl_keeps State.sched _ (fun _ _ => by exact State.commit_sched _ _ _) _ _
@[simp] theorem State.genStep_fadeInTimer (s : State) (g : Nat) : (s.genStep g).fadeInTimer = s.fadeInTimer := foldl_keeps State.fadeInTimer _ (fun _ _ => by exact State.commit_fadeInTimer _ _ _) _ _
@[simp] theorem State.genStep_fadeOutTimer (s : State) (g : Nat) : (s.genStep g).fadeOutTimer = s.fadeOutTimer := foldl_keeps State.fadeOutTimer _ (fun _ _ => by exact State.commit_fadeOutTimer _ _ _) _ _
@[simp] theorem State.genStep_asleep (s : State) (g : Nat) : (s.genStep g).asleep = s.asleep := foldl_keeps State.asleep _ (fun _ _ => by exact State.commit_asleep _ _ _) _ _
@[simp] theorem State.genStep_zones (s : State) (g : Nat) : (s.genStep g).zones = s.zones := foldl_keeps State.zones _ (fun _ _ => by exact State.commit_zones _ _ _) _ _
@[simp] theorem State.genStep_dc (s : State) (g : Nat) : (s.genStep g).dc = s.dc := foldl_keeps State.dc _ (fun _ _ => by exact State.commit_dc _ _ _) _ _
@[simp] theorem State.genStep_result (s : State) (g : Nat) : (s.genStep g).result = s.result := foldl_keeps State.result _ (fun _ _ => by exact State.commit_result _ _ _) _ _
@[simp] theorem State.genStep_cmdErr (s : State) (g : Nat) : (s.genStep g).cmdErr = s.cmdErr := foldl_keeps State.cmdErr _ (fun _ _ => by exact State.commit_cmdErr _ _ _) _ _
@[simp] theorem State.genStep_frameOut (s : State) (g : Nat) : (s.genStep g).frameOut = s.frameOut := foldl_keeps State.frameOut _ (fun _ _ => by exact State.commit_frameOut _ _ _) _ _
@[simp] theorem State.genStep_frameValid (s : State) (g : Nat) : (s.genStep g).frameValid = s.frameValid := foldl_keeps State.frameValid _ (fun _ _ => by exact State.commit_frameValid _ _ _) _ _
@[simp] theorem State.genStep_dcOut (s : State) (g : Nat) : (s.genStep g).dcOut = s.dcOut := foldl_keeps State.dcOut _ (fun _ _ => by exact State.commit_dcOut _ _ _) _ _
@[simp] theorem State.genStep_dcWrite (s : State) (g : Nat) : (s.genStep g).dcWrite = s.dcWrite := foldl_keeps State.dcWrite _ (fun _ _ => by exact State.commit_dcWrite _ _ _) _ _

/-! ## zoneOn writes zones only -/

@[simp] theorem State.zoneOn_cfg (s : State) (z : Nat) (d : Half) : (s.zoneOn z d).cfg = s.cfg := rfl
@[simp] theorem State.zoneOn_cmd (s : State) (z : Nat) (d : Half) : (s.zoneOn z d).cmd = s.cmd := rfl
@[simp] theorem State.zoneOn_now (s : State) (z : Nat) (d : Half) : (s.zoneOn z d).now = s.now := rfl
@[simp] theorem State.zoneOn_inMotion (s : State) (z : Nat) (d : Half) : (s.zoneOn z d).inMotion = s.inMotion := rfl
@[simp] theorem State.zoneOn_motionTimer (s : State) (z : Nat) (d : Half) : (s.zoneOn z d).motionTimer = s.motionTimer := rfl
@[simp] theorem State.zoneOn_lastLevel (s : State) (z : Nat) (d : Half) : (s.zoneOn z d).lastLevel = s.lastLevel := rfl
@[simp] theorem State.zoneOn_depressed (s : State) (z : Nat) (d : Half) : (s.zoneOn z d).depressed = s.depressed := rfl
@[simp] theorem State.zoneOn_shortTimer (s : State) (z : Nat) (d : Half) : (s.zoneOn z d).shortTimer = s.shortTimer := rfl
@[simp] theorem State.zoneOn_longTimer (s : State) (z : Nat) (d : Half) : (s.zoneOn z d).longTimer = s.longTimer := rfl
@[simp] theorem State.zoneOn_pressClass (s : State) (z : Nat) (d : Half) : (s.zoneOn z d).pressClass = s.pressClass := rfl
@[simp] theorem State.zoneOn_halfBrightness (s : State) (z : Nat) (d : Half) : (s.zoneOn z d).halfBrightness = s.halfBrightness := rfl
@[simp] theorem State.zoneOn_lockout (s : State) (z : Nat) (d : Half) : (s.zoneOn z d).lockout = s.lockout := rfl
@[simp] theorem State.zoneOn_sched (s : State) (z : Nat) (d : Half) : (s.zoneOn z d).sched = s.sched := rfl
@[simp] theorem State.zoneOn_fadeInTimer (s : State) (z : Nat) (d : Half) : (s.zoneOn z d).fadeInTimer = s.fadeInTimer := rfl
@[simp] theorem State.zoneOn_fadeOutTimer (s : State) (z : Nat) (d : Half) : (s.zoneOn z d).fadeOutTimer = s.fadeOutTimer := rfl
@[simp] theorem State.zoneOn_asleep (s : State) (z : Nat) (d : Half) : (s.zoneOn z d).asleep = s.asleep := rfl
@[simp] theorem State.zoneOn_gens (s : State) (z : Nat) (d : Half) : (s.zoneOn z d).gens = s.gens := rfl
@[simp] theorem State.zoneOn_frame (s : State) (z : Nat) (d : Half) : (s.zoneOn z d).frame = s.frame := rfl
@[simp] theorem State.zoneOn_dc (s : State) (z : Nat) (d : Half) : (s.zoneOn z d).dc = s.dc := rfl
@[simp] theorem State.zoneOn_result (s : State) (z : Nat) (d : Half) : (s.zoneOn z d).result = s.result := rfl
@[simp] theorem State.zoneOn_cmdErr (s : State) (z : Nat) (d : Half) : (s.zoneOn z d).cmdErr = s.cmdErr := rfl
@[simp] theorem State.zoneOn_frameOut (s : State) (z : Nat) (d : Half) : (s.zoneOn z d).frameOut = s.frameOut := rfl
@[simp] theorem State.zoneOn_frameValid (s : State) (z : Nat) (d : Half) : (s.zoneOn z d).frameValid = s.frameValid := rfl
@[simp] theorem State.zoneOn_dcOut (s : State) (z : Nat) (d : Half) : (s.zoneOn z d).dcOut = s.dcOut := rfl
@[simp] theorem State.zoneOn_dcWrite (s : State) (z : Nat) (d : Half) : (s.zoneOn z d).dcWrite = s.dcWrite := rfl

/-! ## zoneOff writes zones only -/

@[simp] theorem State.zoneOff_cfg (s : State) (z : Nat) (d : Half) : (s.zoneOff z d).cfg = s.cfg := rfl
@[simp] theorem State.zoneOff_cmd (s : State) (z : Nat) (d : Half) : (s.zoneOff z d).cmd = s.cmd := rfl
@[simp] theorem State.zoneOff_now (s : State) (z : Nat) (d : Half) : (s.zoneOff z d).now = s.now := rfl
@[simp] theorem State.zoneOff_inMotion (s : State) (z : Nat) (d : Half) : (s.zoneOff z d).inMotion = s.inMotion := rfl
@[simp] theorem State.zoneOff_motionTimer (s : State) (z : Nat) (d : Half) : (s.zoneOff z d).motionTimer = s.motionTimer := rfl
@[simp] theorem State.zoneOff_lastLevel (s : State) (z : Nat) (d : Half) : (s.zoneOff z d).lastLevel = s.lastLevel := rfl
@[simp] theorem State.zoneOff_depressed (s : State) (z : Nat) (d : Half) : (s.zoneOff z d).depressed = s.depressed := rfl
@[simp] theorem State.zoneOff_shortTimer (s : State) (z : Nat) (d : Half) : (s.zoneOff z d).shortTimer = s.shortTimer := rfl
@[simp] theorem State.zoneOff_longTimer (s : State) (z : Nat) (d : Half) : (s.zoneOff z d).longTimer = s.longTimer := rfl
@[simp] theorem State.zoneOff_pressClass (s : State) (z : Nat) (d : Half) : (s.zoneOff z d).pressClass = s.pressClass := rfl
@[simp] theorem State.zoneOff_halfBrightness (s : State) (z : Nat) (d : Half) : (s.zoneOff z d).halfBrightness = s.halfBrightness := rfl
@[simp] theorem State.zoneOff_lockout (s : State) (z : Nat) (d : Half) : (s.zoneOff z d).lockout = s.lockout := rfl
@[simp] theorem State.zoneOff_sched (s : State) (z : Nat) (d : Half) : (s.zoneOff z d).sched = s.sched := rfl
@[simp] theorem State.zoneOff_fadeInTimer (s : State) (z : Nat) (d : Half) : (s.zoneOff z d).fadeInTimer = s.fadeInTimer := rfl
@[simp] theorem State.zoneOff_fadeOutTimer (s : State) (z : Nat) (d : Half) : (s.zoneOff z d).fadeOutTimer = s.fadeOutTimer := rfl
@[simp] theorem State.zoneOff_asleep (s : State) (z : Nat) (d : Half) : (s.zoneOff z d).asleep = s.asleep := rfl
@[simp] theorem State.zoneOff_gens (s : State) (z : Nat) (d : Half) : (s.zoneOff z d).gens = s.gens := rfl
@[simp] theorem State.zoneOff_frame (s : State) (z : Nat) (d : Half) : (s.zoneOff z d).frame = s.frame := rfl
@[simp] theorem State.zoneOff_dc (s : State) (z : Nat) (d : Half) : (s.zoneOff z d).dc = s.dc := rfl
@[simp] theorem State.zoneOff_result (s : State) (z : Nat) (d : Half) : (s.zoneOff z d).result = s.result := rfl
@[simp] theorem State.zoneOff_cmdErr (s : State) (z : Nat) (d : Half) : (s.zoneOff z d).cmdErr = s.cmdErr := rfl
@[simp] theorem State.zoneOff_frameOut (s : State) (z : Nat) (d : Half) : (s.zoneOff z d).frameOut = s.frameOut := rfl
@[simp] theorem State.zoneOff_frameValid (s : State) (z : Nat) (d : Half) : (s.zoneOff z d).frameValid = s.frameValid := rfl
@[simp] theorem State.zoneOff_dcOut (s : State) (z : Nat) (d : Half) : (s.zoneOff z d).dcOut = s.dcOut := rfl
@[simp] theorem State.zoneOff_dcWrite (s : State) (z : Nat) (d : Half) : (s.zoneOff z d).dcWrite = s.dcWrite := rfl

/-! ## zoneRun writes zones, frame only -/

@[simp] theorem State.zoneRun_cfg (s : State) (z : Nat) : (s.zoneRun z).cfg = s.cfg := by
  simp only [State.zoneRun]; split <;> simp
@[simp] theorem State.zoneRun_cmd (s : State) (z : Nat) : (s.zoneRun z).cmd = s.cmd := by
  simp only [State.zoneRun]; split <;> simp
@[simp] theorem State.zoneRun_now (s : State) (z : Nat) : (s.zoneRun z).now = s.now := by
  simp only [State.zoneRun]; split <;> simp
@[simp] theorem State.zoneRun_inMotion (s : State) (z : Nat) : (s.zoneRun z).inMotion = s.inMotion := by
  simp only [State.zoneRun]; split <;> simp
@[simp] theorem State.zoneRun_motionTimer (s : State) (z : Nat) : (s.zoneRun z).motionTimer = s.motionTimer := by
  simp only [State.zoneRun]; split <;> simp
@[simp] theorem State.zoneRun_lastLevel (s : State) (z : Nat) : (s.zoneRun z).lastLevel = s.lastLevel := by
  simp only [State.zoneRun]; split <;> simp
@[simp] theorem State.zoneRun_depressed (s : State) (z : Nat) : (s.zoneRun z).depressed = s.depressed := by
  simp only [State.zoneRun]; split <;> simp
@[simp] theorem State.zoneRun_shortTimer (s : State) (z : Nat) : (s.zoneRun z).shortTimer = s.shortTimer := by
  simp only [State.zoneRun]; split <;> simp
@[simp] theorem State.zoneRun_longTimer (s : State) (z : Nat) : (s.zoneRun z).longTimer = s.longTimer := by
  simp only [State.zoneRun]; split <;> simp
@[simp] theorem State.zoneRun_pressClass (s : State) (z : Nat) : (s.zoneRun z).pressClass = s.pressClass := by
  simp only [State.zoneRun]; split <;> simp
@[simp] theorem State.zoneRun_halfBrightness (s : State) (z : Nat) : (s.zoneRun z).halfBrightness = s.halfBrightness := by
  simp only [State.zoneRun]; split <;> simp
@[simp] theorem State.zoneRun_lockout (s : State) (z : Nat) : (s.zoneRun z).lockout = s.lockout := by
  simp only [State.zoneRun]; split <;> simp
@[simp] theorem State.zoneRun_sched (s : State) (z : Nat) : (s.zoneRun z).sched = s.sched := by
  simp only [State.zoneRun]; split <;> simp
@[simp] theorem State.zoneRun_fadeInTimer (s : State) (z : Nat) : (s.zoneRun z).fadeInTimer = s.fadeInTimer := by
  simp only [State.zoneRun]; split <;> simp
@[simp] theorem State.zoneRun_fadeOutTimer (s : State) (z : Nat) : (s.zoneRun z).fadeOutTimer = s.fadeOutTimer := by
  simp only [State.zoneRun]; split <;> simp
@[simp] theorem State.zoneRun_asleep (s : State) (z : Nat) : (s.zoneRun z).asleep = s.asleep := by
  simp only [State.zoneRun]; split <;> simp
@[simp] theorem State.zoneRun_gens (s : State) (z : Nat) : (s.zoneRun z).gens = s.gens := by
  simp only [State.zoneRun]; split <;> simp
@[simp] theorem State.zoneRun_dc (s : State) (z : Nat) : (s.zoneRun z).dc = s.dc := by
  simp only [State.zoneRun]; split <;> simp
@[simp] theorem State.zoneRun_result (s : State) (z : Nat) : (s.zoneRun z).result = s.result := by
  simp only [State.zoneRun]; split <;> simp
@[simp] theorem State.zoneRun_cmdErr (s : State) (z : Nat) : (s.zoneRun z).cmdErr = s.cmdErr := by
  simp only [State.zoneRun]; split <;> simp
@[simp] theorem State.zoneRun_frameOut (s : State) (z : Nat) : (s.zoneRun z).frameOut = s.frameOut := by
  simp only [State.zoneRun]; split <;> simp
@[simp] theorem State.zoneRun_frameValid (s : State) (z : Nat) : (s.zoneRun z).frameValid = s.frameValid := by
  simp only [State.zoneRun]; split <;> simp
@[simp] theorem State.zoneRun_dcOut (s : State) (z : Nat) : (s.zoneRun z).dcOut = s.dcOut := by
  simp only [State.zoneRun]; split <;> simp
@[simp] theorem State.zoneRun_dcWrite (s : State) (z : Nat) : (s.zoneRun z).dcWrite = s.dcWrite := by
  simp only [State.zoneRun]; split <;> simp

/-! ## ambientOn writes zones only -/

@[simp] theorem State.ambientOn_cfg (s : State) : s.ambientOn.cfg = s.cfg := foldl_keeps State.cfg _ (fun _ _ => by rfl) _ _
@[simp] theorem State.ambientOn_cmd (s : State) : s.ambientOn.cmd = s.cmd := foldl_keeps State.cmd _ (fun _ _ => by rfl) _ _
@[simp] theorem State.ambientOn_now (s : State) : s.ambientOn.now = s.now := foldl_keeps State.now _ (fun _ _ => by rfl) _ _
@[simp] theorem State.ambientOn_inMotion (s : State) : s.ambientOn.inMotion = s.inMotion := foldl_keeps State.inMotion _ (fun _ _ => by rfl) _ _
@[simp] theorem State.ambientOn_motionTimer (s : State) : s.ambientOn.motionTimer = s.motionTimer := foldl_keeps State.motionTimer _ (fun _ _ => by rfl) _ _
@[simp] theorem State.ambientOn_lastLevel (s : State) : s.ambientOn.lastLevel = s.lastLevel := foldl_keeps State.lastLevel _ (fun _ _ => by rfl) _ _
@[simp] theorem State.ambientOn_depressed (s : State) : s.ambientOn.depressed = s.depressed := foldl_keeps State.depressed _ (fun _ _ => by rfl) _ _
@[simp] theorem State.ambientOn_shortTimer (s : State) : s.ambientOn.shortTimer = s.shortTimer := foldl_keeps State.shortTimer _ (fun _ _ => by rfl) _ _
@[simp] theorem State.ambientOn_longTimer (s : State) : s.ambientOn.longTimer = s.longTimer := foldl_keeps State.longTimer _ (fun _ _ => by rfl) _ _
@[simp] theorem State.ambientOn_pressClass (s : State) : s.ambientOn.pressClass = s.pressClass := foldl_keeps State.pressClass _ (fun _ _ => by rfl) _ _
@[simp] theorem State.ambientOn_halfBrightness (s : State) : s.ambientOn.halfBrightness = s.halfBrightness := foldl_keeps State.halfBrightness _ (fun _ _ => by rfl) _ _
@[simp] theorem State.ambientOn_lockout (s : State) : s.ambientOn.lockout = s.lockout := foldl_keeps State.lockout _ (fun _ _ => by rfl) _ _
@[simp] theorem State.ambientOn_sched (s : State) : s.ambientOn.sched = s.sched := foldl_keeps State.sched _ (fun _ _ => by rfl) _ _
@[simp] theorem State.ambientOn_fadeInTimer (s : State) : s.ambientOn.fadeInTimer = s.fadeInTimer := foldl_keeps State.fadeInTimer _ (fun _ _ => by rfl) _ _
@[simp] theorem State.ambientOn_fadeOutTimer (s : State) : s.ambientOn.fadeOutTimer = s.fadeOutTimer := foldl_keeps State.fadeOutTimer _ (fun _ _ => by rfl) _ _
@[simp] theorem State.ambientOn_asleep (s : State) : s.ambientOn.asleep = s.asleep := foldl_keeps State.asleep _ (fun _ _ => by rfl) _ _
@[simp] theorem State.ambientOn_gens (s : State) : s.ambientOn.gens = s.gens := foldl_keeps State.gens _ (fun _ _ => by rfl) _ _
@[simp] theorem State.ambientOn_frame (s : State) : s.ambientOn.frame = s.frame := foldl_keeps State.frame _ (fun _ _ => by rfl) _ _
@[simp] theorem State.ambientOn_dc (s : State) : s.ambientOn.dc = s.dc := foldl_keeps State.dc _ (fun _ _ => by rfl) _ _
@[simp] theorem State.ambientOn_result (s : State) : s.ambientOn.result = s.result := foldl_keeps State.result _ (fun _ _ => by rfl) _ _
@[simp] theorem State.ambientOn_cmdErr (s : State) : s.ambientOn.cmdErr = s.cmdErr := foldl_keeps State.cmdErr _ (fun _ _ => by rfl) _ _
@[simp] theorem State.ambientOn_frameOut (s : State) : s.ambientOn.frameOut = s.frameOut := foldl_keeps State.frameOut _ (fun _ _ => by rfl) _ _
@[simp] theorem State.ambientOn_frameValid (s : State) : s.ambientOn.frameValid = s.frameValid := foldl_keeps State.frameValid _ (fun _ _ => by rfl) _ _
@[simp] theorem State.ambientOn_dcOut (s : State) : s.ambientOn.dcOut = s.dcOut := foldl_keeps State.dcOut _ (fun _ _ => by rfl) _ _
@[simp] theorem State.ambientOn_dcWrite (s : State) : s.ambientOn.dcWrite = s.dcWrite := foldl_keeps State.dcWrite _ (fun _ _ => by rfl) _ _

/-! ## ambientOff writes zones only -/

@[simp] theorem State.ambientOff_cfg (s : State) : s.ambientOff.cfg = s.cfg := foldl_keeps State.cfg _ (fun _ _ => by rfl) _ _
@[simp] theorem State.ambientOff_cmd (s : State) : s.ambientOff.cmd = s.cmd := foldl_keeps State.cmd _ (fun _ _ => by rfl) _ _
@[simp] theorem State.ambientOff_now (s : State) : s.ambientOff.now = s.now := foldl_keeps State.now _ (fun _ _ => by rfl) _ _
@[simp] theorem State.ambientOff_inMotion (s : State) : s.ambientOff.inMotion = s.inMotion := foldl_keeps State.inMotion _ (fun _ _ => by rfl) _ _
@[simp] theorem State.ambientOff_motionTimer (s : State) : s.ambientOff.motionTimer = s.motionTimer := foldl_keeps State.motionTimer _ (fun _ _ => by rfl) _ _
@[simp] theorem State.ambientOff_lastLevel (s : State) : s.ambientOff.lastLevel = s.lastLevel := foldl_keeps State.lastLevel _ (fun _ _ => by rfl) _ _
@[simp] theorem State.ambientOff_depressed (s : State) : s.ambientOff.depressed = s.depressed := foldl_keeps State.depressed _ (fun _ _ => by rfl) _ _
@[simp] theorem State.ambientOff_shortTimer (s : State) : s.ambientOff.shortTimer = s.shortTimer := foldl_keeps State.shortTimer _ (fun _ _ => by rfl) _ _
@[simp] theorem State.ambientOff_longTimer (s : State) : s.ambientOff.longTimer = s.longTimer := foldl_keeps State.longTimer _ (fun _ _ => by rfl) _ _
@[simp] theorem State.ambientOff_pressClass (s : State) : s.ambientOff.pressClass = s.pressClass := foldl_keeps State.pressClass _ (fun _ _ => by rfl) _ _
@[simp] theorem State.ambientOff_halfBrightness (s : State) : s.ambientOff.halfBrightness = s.halfBrightness := foldl_keeps State.halfBrightness _ (fun _ _ => by rfl) _ _
@[simp] theorem State.ambientOff_lockout (s : State) : s.ambientOff.lockout = s.lockout := foldl_keeps State.lockout _ (fun _ _ => by rfl) _ _
@[simp] theorem State.ambientOff_sched (s : State) : s.ambientOff.sched = s.sched := foldl_keeps State.sched _ (fun _ _ => by rfl) _ _
@[simp] theorem State.ambientOff_fadeInTimer (s : State) : s.ambientOff.fadeInTimer = s.fadeInTimer := foldl_keeps State.fadeInTimer _ (fun _ _ => by rfl) _ _
@[simp] theorem State.ambientOff_fadeOutTimer (s : State) : s.ambientOff.fadeOutTimer = s.fadeOutTimer := foldl_keeps State.fadeOutTimer _ (fun _ _ => by rfl) _ _
@[simp] theorem State.ambientOff_asleep (s : State) : s.ambientOff.asleep = s.asleep := foldl_keeps State.asleep _ (fun _ _ => by rfl) _ _
@[simp] theorem State.ambientOff_gens (s : State) : s.ambientOff.gens = s.gens := foldl_keeps State.gens _ (fun _ _ => by rfl) _ _
@[simp] theorem State.ambientOff_frame (s : State) : s.ambientOff.frame = s.frame := foldl_keeps State.frame _ (fun _ _ => by rfl) _ _
@[simp] theorem State.ambientOff_dc (s : State) : s.ambientOff.dc = s.dc := foldl_keeps State.dc _ (fun _ _ => by rfl) _ _
@[simp] theorem State.ambientOff_result (s : State) : s.ambientOff.result = s.result := foldl_keeps State.result _ (fun _ _ => by rfl) _ _
@[simp] theorem State.ambientOff_cmdErr (s : State) : s.ambientOff.cmdErr = s.cmdErr := foldl_keeps State.cmdErr _ (fun _ _ => by rfl) _ _
@[simp] theorem State.ambientOff_frameOut (s : State) : s.ambientOff.frameOut = s.frameOut := foldl_keeps State.frameOut _ (fun _ _ => by rfl) _ _
@[simp] theorem State.ambientOff_frameValid (s : State) : s.ambientOff.frameValid = s.frameValid := foldl_keeps State.frameValid _ (fun _ _ => by rfl) _ _
@[simp] theorem State.ambientOff_dcOut (s : State) : s.ambientOff.dcOut = s.dcOut := foldl_keeps State.dcOut _ (fun _ _ => by rfl) _ _
@[simp] theorem State.ambientOff_dcWrite (s : State) : s.ambientOff.dcWrite = s.dcWrite := foldl_keeps State.dcWrite _ (fun _ _ => by rfl) _ _

/-! ## startAll writes gens only -/

@[simp] theorem State.startAll_cfg (s : State) : s.startAll.cfg = s.cfg := foldl_keeps State.cfg _ (fun _ _ => by rfl) _ _
@[simp] theorem State.startAll_cmd (s : State) : s.startAll.cmd = s.cmd := foldl_keeps State.cmd _ (fun _ _ => by rfl) _ _
@[simp] theorem State.startAll_now (s : State) : s.startAll.now = s.now := foldl_keeps State.now _ (fun _ _ => by rfl) _ _
@[simp] theorem State.startAll_inMotion (s : State) : s.startAll.inMotion = s.inMotion := foldl_keeps State.inMotion _ (fun _ _ => by rfl) _ _
@[simp] theorem State.startAll_motionTimer (s : State) : s.startAll.motionTimer = s.motionTimer := foldl_keeps State.motionTimer _ (fun _ _ => by rfl) _ _
@[simp] theorem State.startAll_lastLevel (s : State) : s.startAll.lastLevel = s.lastLevel := foldl_keeps State.lastLevel _ (fun _ _ => by rfl) _ _
@[simp] theorem State.startAll_depressed (s : State) : s.startAll.depressed = s.depressed := foldl_keeps State.depressed _ (fun _ _ => by rfl) _ _
@[simp] theorem State.startAll_shortTimer (s : State) : s.startAll.shortTimer = s.shortTimer := foldl_keeps State.shortTimer _ (fun _ _ => by rfl) _ _
@[simp] theorem State.startAll_longTimer (s : State) : s.startAll.longTimer = s.longTimer := foldl_keeps State.longTimer _ (fun _ _ => by rfl) _ _
@[simp] theorem State.startAll_pressClass (s : State) : s.startAll.pressClass = s.pressClass := foldl_keeps State.pressClass _ (fun _ _ => by rfl) _ _
@[simp] theorem State.startAll_halfBrightness (s : State) : s.startAll.halfBrightness = s.halfBrightness := foldl_keeps State.halfBrightness _ (fun _ _ => by rfl) _ _
@[simp] theorem State.startAll_lockout (s : State) : s.startAll.lockout = s.lockout := foldl_keeps State.lockout _ (fun _ _ => by rfl) _ _
@[simp] theorem State.startAll_sched (s : State) : s.startAll.sched = s.sched := foldl_keeps State.sched _ (fun _ _ => by rfl) _ _
@[simp] theorem State.startAll_fadeInTimer (s : State) : s.startAll.fadeInTimer = s.fadeInTimer := foldl_keeps State.fadeInTimer _ (fun _ _ => by rfl) _ _
@[simp] theorem State.startAll_fadeOutTimer (s : State) : s.startAll.fadeOutTimer = s.fadeOutTimer := foldl_keeps State.fadeOutTimer _ (fun _ _ => by rfl) _ _
@[simp] theorem State.startAll_asleep (s : State) : s.startAll.asleep = s.asleep := foldl_keeps State.asleep _ (fun _ _ => by rfl) _ _
@[simp] theorem State.startAll_zones (s : State) : s.startAll.zones = s.zones := foldl_keeps State.zones _ (fun _ _ => by rfl) _ _
@[simp] theorem State.startAll_frame (s : State) : s.startAll.frame = s.frame := foldl_keeps State.frame _ (fun _ _ => by rfl) _ _
@[simp] theorem State.startAll_dc (s : State) : s.startAll.dc = s.dc := foldl_keeps State.dc _ (fun _ _ => by rfl) _ _
@[simp] theorem State.startAll_result (s : State) : s.startAll.result = s.result := foldl_keeps State.result _ (fun _ _ => by rfl) _ _
@[simp] theorem State.startAll_cmdErr (s : State) : s.startAll.cmdErr = s.cmdErr := foldl_keeps State.cmdErr _ (fun _ _ => by rfl) _ _
@[simp] theorem State.startAll_frameOut (s : State) : s.startAll.frameOut = s.frameOut := foldl_keeps State.frameOut _ (fun _ _ => by rfl) _ _
@[simp] theorem State.startAll_frameValid (s : State) : s.startAll.frameValid = s.frameValid := foldl_keeps State.frameValid _ (fun _ _ => by rfl) _ _
@[simp] theorem State.startAll_dcOut (s : State) : s.startAll.dcOut = s.dcOut := foldl_keeps State.dcOut _ (fun _ _ => by rfl) _ _
@[simp] theorem State.startAll_dcWrite (s : State) : s.startAll.dcWrite = s.dcWrite := foldl_keeps State.dcWrite _ (fun _ _ => by rfl) _ _

/-! ## stopAll writes gens only -/

@[simp] theorem State.stopAll_cfg (s : State) : s.stopAll.cfg = s.cfg := foldl_keeps State.cfg _ (fun _ _ => by rfl) _ _
@[simp] theorem State.stopAll_cmd (s : State) : s.stopAll.cmd = s.cmd := foldl_keeps State.cmd _ (fun _ _ => by rfl) _ _
@[simp] theorem State.stopAll_now (s : State) : s.stopAll.now = s.now := foldl_keeps State.now _ (fun _ _ => by rfl) _ _
@[simp] theorem State.stopAll_inMotion (s : State) : s.stopAll.inMotion = s.inMotion := foldl_keeps State.inMotion _ (fun _ _ => by rfl) _ _
@[simp] theorem State.stopAll_motionTimer (s : State) : s.stopAll.motionTimer = s.motionTimer := foldl_keeps State.motionTimer _ (fun _ _ => by rfl) _ _
@[simp] theorem State.stopAll_lastLevel (s : State) : s.stopAll.lastLevel = s.lastLevel := foldl_keeps State.lastLevel _ (fun _ _ => by rfl) _ _
@[simp] theorem State.stopAll_depressed (s : State) : s.stopAll.depressed = s.depressed := foldl_keeps State.depressed _ (fun _ _ => by rfl) _ _
@[simp] theorem State.stopAll_shortTimer (s : State) : s.stopAll.shortTimer = s.shortTimer := foldl_keeps State.shortTimer _ (fun _ _ => by rfl) _ _
@[simp] theorem State.stopAll_longTimer (s : State) : s.stopAll.longTimer = s.longTimer := foldl_keeps State.longTimer _ (fun _ _ => by rfl) _ _
@[simp] theorem State.stopAll_pressClass (s : State) : s.stopAll.pressClass = s.pressClass := foldl_keeps State.pressClass _ (fun _ _ => by rfl) _ _
@[simp] theorem State.stopAll_halfBrightness (s : State) : s.stopAll.halfBrightness = s.halfBrightness := foldl_keeps State.halfBrightness _ (fun _ _ => by rfl) _ _
@[simp] theorem State.stopAll_lockout (s : State) : s.stopAll.lockout = s.lockout := foldl_keeps State.lockout _ (fun _ _ => by rfl) _ _
@[simp] theorem State.stopAll_sched (s : State) : s.stopAll.sched = s.sched := foldl_keeps State.sched _ (fun _ _ => by rfl) _ _
@[simp] theorem State.stopAll_fadeInTimer (s : State) : s.stopAll.fadeInTimer = s.fadeInTimer := foldl_keeps State.fadeInTimer _ (fun _ _ => by rfl) _ _
@[simp] theorem State.stopAll_fadeOutTimer (s : State) : s.stopAll.fadeOutTimer = s.fadeOutTimer := foldl_keeps State.fadeOutTimer _ (fun _ _ => by rfl) _ _
@[simp] theorem State.stopAll_asleep (s : State) : s.stopAll.asleep = s.asleep := foldl_keeps State.asleep _ (fun _ _ => by rfl) _ _
@[simp] theorem State.stopAll_zones (s : State) : s.stopAll.zones = s.zones := foldl_keeps State.zones _ (fun _ _ => by rfl) _ _
@[simp] theorem State.stopAll_frame (s : State) : s.stopAll.frame = s.frame := foldl_keeps State.frame _ (fun _ _ => by rfl) _ _
@[simp] theorem State.stopAll_dc (s : State) : s.stopAll.dc = s.dc := foldl_keeps State.dc _ (fun _ _ => by rfl) _ _
@[simp] theorem State.stopAll_result (s : State) : s.stopAll.result = s.result := foldl_keeps State.result _ (fun _ _ => by rfl) _ _
@[simp] theorem State.stopAll_cmdErr (s : State) : s.stopAll.cmdErr = s.cmdErr := foldl_keeps State.cmdErr _ (fun _ _ => by rfl) _ _
@[simp] theorem State.stopAll_frameOut (s : State) : s.stopAll.frameOut = s.frameOut := foldl_keeps State.frameOut _ (fun _ _ => by rfl) _ _
@[simp] theorem State.stopAll_frameValid (s : State) : s.stopAll.frameValid = s.frameValid := foldl_keeps State.frameValid _ (fun _ _ => by rfl) _ _
@[simp] theorem State.stopAll_dcOut (s : State) : s.stopAll.dcOut = s.dcOut := foldl_keeps State.dcOut _ (fun _ _ => by rfl) _ _
@[simp] theorem State.stopAll_dcWrite (s : State) : s.stopAll.dcWrite = s.dcWrite := foldl_keeps State.dcWrite _ (fun _ _ => by rfl) _ _

/-! ## runZones writes zones, frame only -/

@[simp] theorem State.runZones_cfg (s : State) : s.runZones.cfg = s.cfg := foldl_keeps State.cfg _ (fun _ _ => by exact State.zoneRun_cfg _ _) _ _
@[simp] theorem State.runZones_cmd (s : State) : s.runZones.cmd = s.cmd := foldl_keeps State.cmd _ (fun _ _ => by exact State.zoneRun_cmd _ _) _ _
@[simp] theorem State.runZones_now (s : State) : s.runZones.now = s.now := foldl_keeps State.now _ (fun _ _ => by exact State.zoneRun_now _ _) _ _
@[simp] theorem State.runZones_inMotion (s : State) : s.runZones.inMotion = s.inMotion := foldl_keeps State.inMotion _ (fun _ _ => by exact State.zoneRun_inMotion _ _) _ _
@[simp] theorem State.runZones_motionTimer (s : State) : s.runZones.motionTimer = s.motionTimer := foldl_keeps State.motionTimer _ (fun _ _ => by exact State.zoneRun_motionTimer _ _) _ _
@[simp] theorem State.runZones_lastLevel (s : State) : s.runZones.lastLevel = s.lastLevel := foldl_keeps State.lastLevel _ (fun _ _ => by exact State.zoneRun_lastLevel _ _) _ _
@[simp] theorem State.runZones_depressed (s : State) : s.runZones.depressed = s.depressed := foldl_keeps State.depressed _ (fun _ _ => by exact State.zoneRun_depressed _ _) _ _
@[simp] theorem State.runZones_shortTimer (s : State) : s.runZones.shortTimer = s.shortTimer := foldl_keeps State.shortTimer _ (fun _ _ => by exact State.zoneRun_shortTimer _ _) _ _
@[simp] theorem State.runZones_longTimer (s : State) : s.runZones.longTimer = s.longTimer := foldl_keeps State.longTimer _ (fun _ _ => by exact State.zoneRun_longTimer _ _) _ _
@[simp] theorem State.runZones_pressClass (s : State) : s.runZones.pressClass = s.pressClass := foldl_keeps State.pressClass _ (fun _ _ => by exact State.zoneRun_pressClass _ _) _ _
@[simp] theorem State.runZones_halfBrightness (s : State) : s.runZones.halfBrightness = s.halfBrightness := foldl_keeps State.halfBrightness _ (fun _ _ => by exact State.zoneRun_halfBrightness _ _) _ _
@[simp] theorem State.runZones_lockout (s : State) : s.runZones.lockout = s.lockout := foldl_keeps State.lockout _ (fun _ _ => by exact State.zoneRun_lockout _ _) _ _
@[simp] theorem State.runZones_sched (s : State) : s.runZones.sched = s.sched := foldl_keeps State.sched _ (fun _ _ => by exact State.zoneRun_sched _ _) _ _
@[simp] theorem State.runZones_fadeInTimer (s : State) : s.runZones.fadeInTimer = s.fadeInTimer := foldl_keeps State.fadeInTimer _ (fun _ _ => by exact State.zoneRun_fadeInTimer _ _) _ _
@[simp] theorem State.runZones_fadeOutTimer (s : State) : s.runZones.fadeOutTimer = s.fadeOutTimer := foldl_keeps State.fadeOutTimer _ (fun _ _ => by exact State.zoneRun_fadeOutTimer _ _) _ _
@[simp] theorem State.runZones_asleep (s : State) : s.runZones.asleep = s.asleep := foldl_keeps State.asleep _ (fun _ _ => by exact State.zoneRun_asleep _ _) _ _
@[simp] theorem State.runZones_gens (s : State) : s.runZones.gens = s.gens := foldl_keeps State.gens _ (fun _ _ => by exact State.zoneRun_gens _ _) _ _
@[simp] theorem State.runZones_dc (s : State) : s.runZones.dc = s.dc := foldl_keeps State.dc _ (fun _ _ => by exact State.zoneRun_dc _ _) _ _
@[simp] theorem State.runZones_result (s : State) : s.runZones.result = s.result := foldl_keeps State.result _ (fun _ _ => by exact State.zoneRun_result _ _) _ _
@[simp] theorem State.runZones_cmdErr (s : State) : s.runZones.cmdErr = s.cmdErr := foldl_keeps State.cmdErr _ (fun _ _ => by exact State.zoneRun_cmdErr _ _) _ _
@[simp] theorem State.runZones_frameOut (s : State) : s.runZones.frameOut = s.frameOut := foldl_keeps State.frameOut _ (fun _ _ => by exact State.zoneRun_frameOut _ _) _ _
@[simp] theorem State.runZones_frameValid (s : State) : s.runZones.frameValid = s.frameValid := foldl_keeps State.frameValid _ (fun _ _ => by exact State.zoneRun_frameValid _ _) _ _
@[simp] theorem State.runZones_dcOut (s : State) : s.runZones.dcOut = s.dcOut := foldl_keeps State.dcOut _ (fun _ _ => by exact State.zoneRun_dcOut _ _) _ _
@[simp] theorem State.runZones_dcWrite (s : State) : s.runZones.dcWrite = s.dcWrite := foldl_keeps State.dcWrite _ (fun _ _ => by exact State.zoneRun_dcWrite _ _) _ _

/-! ## stepGens writes gens, frame only -/

@[simp] theorem State.stepGens_cfg (s : State) : s.stepGens.cfg = s.cfg := foldl_keeps State.cfg _ (fun _ _ => by exact State.genStep_cfg _ _) _ _
@[simp] theorem State.stepGens_cmd (s : State) : s.stepGens.cmd = s.cmd := foldl_keeps State.cmd _ (fun _ _ => by exact State.genStep_cmd _ _) _ _
@[simp] theorem State.stepGens_now (s : State) : s.stepGens.now = s.now := foldl_keeps State.now _ (fun _ _ => by exact State.genStep_now _ _) _ _
@[simp] theorem State.stepGens_inMotion (s : State) : s.stepGens.inMotion = s.inMotion := foldl_keeps State.inMotion _ (fun _ _ => by exact State.genStep_inMotion _ _) _ _
@[simp] theorem State.stepGens_motionTimer (s : State) : s.stepGens.motionTimer = s.motionTimer := foldl_keeps State.motionTimer _ (fun _ _ => by exact State.genStep_motionTimer _ _) _ _
@[simp] theorem State.stepGens_lastLevel (s : State) : s.stepGens.lastLevel = s.lastLevel := foldl_keeps State.lastLevel _ (fun _ _ => by exact State.genStep_lastLevel _ _) _ _
@[simp] theorem State.stepGens_depressed (s : State) : s.stepGens.depressed = s.depressed := foldl_keeps State.depressed _ (fun _ _ => by exact State.genStep_depressed _ _) _ _
@[simp] theorem State.stepGens_shortTimer (s : State) : s.stepGens.shortTimer = s.shortTimer := foldl_keeps State.shortTimer _ (fun _ _ => by exact State.genStep_shortTimer _ _) _ _
@[simp] theorem State.stepGens_longTimer (s : State) : s.stepGens.longTimer = s.longTimer := foldl_keeps State.longTimer _ (fun _ _ => by exact State.genStep_longTimer _ _) _ _
@[simp] theorem State.stepGens_pressClass (s : State) : s.stepGens.pressClass = s.pressClass := foldl_keeps State.pressClass _ (fun _ _ => by exact State.genStep_pressClass _ _) _ _
@[simp] theorem State.stepGens_halfBrightness (s : State) : s.stepGens.halfBrightness = s.halfBrightness := foldl_keeps State.halfBrightness _ (fun _ _ => by exact State.genStep_halfBrightness _ _) _ _
@[simp] theorem State.stepGens_lockout (s : State) : s.stepGens.lockout = s.lockout := foldl_keeps State.lockout _ (fun _ _ => by exact State.genStep_lockout _ _) _ _
@[simp] theorem State.stepGens_sched (s : State) : s.stepGens.sched = s.sched := foldl_keeps State.sched _ (fun _ _ => by exact State.genStep_sched _ _) _ _
@[simp] theorem State.stepGens_fadeInTimer (s : State) : s.stepGens.fadeInTimer = s.fadeInTimer := foldl_keeps State.fadeInTimer _ (fun _ _ => by exact State.genStep_fadeInTimer _ _) _ _
@[simp] theorem State.stepGens_fadeOutTimer (s : State) : s.stepGens.fadeOutTimer = s.fadeOutTimer := foldl_keeps State.fadeOutTimer _ (fun _ _ => by exact State.genStep_fadeOutTimer _ _) _ _
@[simp] theorem State.stepGens_asleep (s : State) : s.stepGens.asleep = s.asleep := foldl_keeps State.asleep _ (fun _ _ => by exact State.genStep_asleep _ _) _ _
@[simp] theorem State.stepGens_zones (s : State) : s.stepGens.zones = s.zones := foldl_keeps State.zones _ (fun _ _ => by exact State.genStep_zones _ _) _ _
@[simp] theorem State.stepGens_dc (s : State) : s.stepGens.dc = s.dc := foldl_keeps State.dc _ (fun _ _ => by exact State.genStep_dc _ _) _ _
@[simp] theorem State.stepGens_result (s : State) : s.stepGens.result = s.result := foldl_keeps State.result _ (fun _ _ => by exact State.genStep_result _ _) _ _
@[simp] theorem State.stepGens_cmdErr (s : State) : s.stepGens.cmdErr = s.cmdErr := foldl_keeps State.cmdErr _ (fun _ _ => by exact State.genStep_cmdErr _ _) _ _
@[simp] theorem State.stepGens_frameOut (s : State) : s.stepGens.frameOut = s.frameOut := foldl_keeps State.frameOut _ (fun _ _ => by exact State.genStep_frameOut _ _) _ _
@[simp] theorem State.stepGens_frameValid (s : State) : s.stepGens.frameValid = s.frameValid := foldl_keeps State.frameValid _ (fun _ _ => by exact State.genStep_frameValid _ _) _ _
@[simp] theorem State.stepGens_dcOut (s : State) : s.stepGens.dcOut = s.dcOut := foldl_keeps State.dcOut _ (fun _ _ => by exact State.genStep_dcOut _ _) _ _
@[simp] theorem State.stepGens_dcWrite (s : State) : s.stepGens.dcWrite = s.dcWrite := foldl_keeps State.dcWrite _ (fun _ _ => by exact State.genStep_dcWrite _ _) _ _

/-! ## shortAction writes halfBrightness, dc, dcOut, dcWrite only -/

@[simp] theorem State.shortAction_cfg (s : State) : s.shortAction.cfg = s.cfg := foldl_keeps State.cfg _ (fun _ _ => by rfl) _ _
@[simp] theorem State.shortAction_cmd (s : State) : s.shortAction.cmd = s.cmd := foldl_keeps State.cmd _ (fun _ _ => by rfl) _ _
@[simp] theorem State.shortAction_now (s : State) : s.shortAction.now = s.now := foldl_keeps State.now _ (fun _ _ => by rfl) _ _
@[simp] theorem State.shortAction_inMotion (s : State) : s.shortAction.inMotion = s.inMotion := foldl_keeps State.inMotion _ (fun _ _ => by rfl) _ _
@[simp] theorem State.shortAction_motionTimer (s : State) : s.shortAction.motionTimer = s.motionTimer := foldl_keeps State.motionTimer _ (fun _ _ => by rfl) _ _
@[simp] theorem State.shortAction_lastLevel (s : State) : s.shortAction.lastLevel = s.lastLevel := foldl_keeps State.lastLevel _ (fun _ _ => by rfl) _ _
@[simp] theorem State.shortAction_depressed (s : State) : s.shortAction.depressed = s.depressed := foldl_keeps State.depressed _ (fun _ _ => by rfl) _ _
@[simp] theorem State.shortAction_shortTimer (s : State) : s.shortAction.shortTimer = s.shortTimer := foldl_keeps State.shortTimer _ (fun _ _ => by rfl) _ _
@[simp] theorem State.shortAction_longTimer (s : State) : s.shortAction.longTimer = s.longTimer := foldl_keeps State.longTimer _ (fun _ _ => by rfl) _ _
@[simp] theorem State.shortAction_pressClass (s : State) : s.shortAction.pressClass = s.pressClass := foldl_keeps State.pressClass _ (fun _ _ => by rfl) _ _
@[simp] theorem State.shortAction_lockout (s : State) : s.shortAction.lockout = s.lockout := foldl_keeps State.lockout _ (fun _ _ => by rfl) _ _
@[simp] theorem State.shortAction_sched (s : State) : s.shortAction.sched = s.sched := foldl_keeps State.sched _ (fun _ _ => by rfl) _ _
@[simp] theorem State.shortAction_fadeInTimer (s : State) : s.shortAction.fadeInTimer = s.fadeInTimer := foldl_keeps State.fadeInTimer _ (fun _ _ => by rfl) _ _
@[simp] theorem State.shortAction_fadeOutTimer (s : State) : s.shortAction.fadeOutTimer = s.fadeOutTimer := foldl_keeps State.fadeOutTimer _ (fun _ _ => by rfl) _ _
@[simp] theorem State.shortAction_asleep (s : State) : s.shortAction.asleep = s.asleep := foldl_keeps State.asleep _ (fun _ _ => by rfl) _ _
@[simp] theorem State.shortAction_zones (s : State) : s.shortAction.zones = s.zones := foldl_keeps State.zones _ (fun _ _ => by rfl) _ _
@[simp] theorem State.shortAction_gens (s : State) : s.shortAction.gens = s.gens := foldl_keeps State.gens _ (fun _ _ => by rfl) _ _
@[simp] theorem State.shortAction_frame (s : State) : s.shortAction.frame = s.frame := foldl_keeps State.frame _ (fun _ _ => by rfl) _ _
@[simp] theorem State.shortAction_result (s : State) : s.shortAction.result = s.result := foldl_keeps State.result _ (fun _ _ => by rfl) _ _
@[simp] theorem State.shortAction_cmdErr (s : State) : s.shortAction.cmdErr = s.cmdErr := foldl_keeps State.cmdErr _ (fun _ _ => by rfl) _ _
@[simp] theorem State.shortAction_frameOut (s : State) : s.shortAction.frameOut = s.frameOut := foldl_keeps State.frameOut _ (fun _ _ => by rfl) _ _
@[simp] theorem State.shortAction_frameValid (s : State) : s.shortAction.frameValid = s.frameValid := foldl_keeps State.frameValid _ (fun _ _ => by rfl) _ _

/-! ## motionEdge writes inMotion, motionTimer only -/

@[simp] theorem State.motionEdge_cfg (s : State) : s.motionEdge.cfg = s.cfg := by
  simp only [State.motionEdge]; split <;> rfl
@[simp] theorem State.motionEdge_cmd (s : State) : s.motionEdge.cmd = s.cmd := by
  simp only [State.motionEdge]; split <;> rfl
@[simp] theorem State.motionEdge_now (s : State) : s.motionEdge.now = s.now := by
  simp only [State.motionEdge]; split <;> rfl
@[simp] theorem State.motionEdge_lastLevel (s : State) : s.motionEdge.lastLevel = s.lastLevel := by
  simp only [State.motionEdge]; split <;> rfl
@[simp] theorem State.motionEdge_depressed (s : State) : s.motionEdge.depressed = s.depressed := by
  simp only [State.motionEdge]; split <;> rfl
@[simp] theorem State.motionEdge_shortTimer (s : State) : s.motionEdge.shortTimer = s.shortTimer := by
  simp only [State.motionEdge]; split <;> rfl
@[simp] theorem State.motionEdge_longTimer (s : State) : s.motionEdge.longTimer = s.longTimer := by
  simp only [State.motionEdge]; split <;> rfl
@[simp] theorem State.motionEdge_pressClass (s : State) : s.motionEdge.pressClass = s.pressClass := by
  simp only [State.motionEdge]; split <;> rfl
@[simp] theorem State.motionEdge_halfBrightness (s : State) : s.motionEdge.halfBrightness = s.halfBrightness := by
  simp only [State.motionEdge]; split <;> rfl
@[simp] theorem State.motionEdge_lockout (s : State) : s.motionEdge.lockout = s.lockout := by
  simp only [State.motionEdge]; split <;> rfl
@[simp] theorem State.motionEdge_sched (s : State) : s.motionEdge.sched = s.sched := by
  simp only [State.motionEdge]; split <;> rfl
@[simp] theorem State.motionEdge_fadeInTimer (s : State) : s.motionEdge.fadeInTimer = s.fadeInTimer := by
  simp only [State.motionEdge]; split <;> rfl
@[simp] theorem State.motionEdge_fadeOutTimer (s : State) : s.motionEdge.fadeOutTimer = s.fadeOutTimer := by
  simp only [State.motionEdge]; split <;> rfl
@[simp] theorem State.motionEdge_asleep (s : State) : s.motionEdge.asleep = s.asleep := by
  simp only [State.motionEdge]; split <;> rfl
@[simp] theorem State.motionEdge_zones (s : State) : s.motionEdge.zones = s.zones := by
  simp only [State.motionEdge]; split <;> rfl
@[simp] theorem State.motionEdge_gens (s : State) : s.motionEdge.gens = s.gens := by
  simp only [State.motionEdge]; split <;> rfl
@[simp] theorem State.motionEdge_frame (s : State) : s.motionEdge.frame = s.frame := by
  simp only [State.motionEdge]; split <;> rfl
@[simp] theorem State.motionEdge_dc (s : State) : s.motionEdge.dc = s.dc := by
  simp only [State.motionEdge]; split <;> rfl
@[simp] theorem State.motionEdge_result (s : State) : s.motionEdge.result = s.result := by
  simp only [State.motionEdge]; split <;> rfl
@[simp] theorem State.motionEdge_cmdErr (s : State) : s.motionEdge.cmdErr = s.cmdErr := by
  simp only [State.motionEdge]; split <;> rfl
@[simp] theorem State.motionEdge_frameOut (s : State) : s.motionEdge.frameOut = s.frameOut := by
  simp only [State.motionEdge]; split <;> rfl
@[simp] theorem State.motionEdge_frameValid (s : State) : s.motionEdge.frameValid = s.frameValid := by
  simp only [State.motionEdge]; split <;> rfl
@[simp] theorem State.motionEdge_dcOut (s : State) : s.motionEdge.dcOut = s.dcOut := by
  simp only [State.motionEdge]; split <;> rfl
@[simp] theorem State.motionEdge_dcWrite (s : State) : s.motionEdge.dcWrite = s.dcWrite := by
  simp only [State.motionEdge]; split <;> rfl

/-! ## motionTick writes inMotion only -/

@[simp] theorem State.motionTick_cfg (s : State) : s.motionTick.cfg = s.cfg := by
  simp only [State.motionTick]; split <;> rfl
@[simp] theorem State.motionTick_cmd (s : State) : s.motionTick.cmd = s.cmd := by
  simp only [State.motionTick]; split <;> rfl
@[simp] theorem State.motionTick_now (s : State) : s.motionTick.now = s.now := by
  simp only [State.motionTick]; split <;> rfl
@[simp] theorem State.motionTick_motionTimer (s : State) : s.motionTick.motionTimer = s.motionTimer := by
  simp only [State.motionTick]; split <;> rfl
@[simp] theorem State.motionTick_lastLevel (s : State) : s.motionTick.lastLevel = s.lastLevel := by
  simp only [State.motionTick]; split <;> rfl
@[simp] theorem State.motionTick_depressed (s : State) : s.motionTick.depressed = s.depressed := by
  simp only [State.motionTick]; split <;> rfl
@[simp] theorem State.motionTick_shortTimer (s : State) : s.motionTick.shortTimer = s.shortTimer := by
  simp only [State.motionTick]; split <;> rfl
@[simp] theorem State.motionTick_longTimer (s : State) : s.motionTick.longTimer = s.longTimer := by
  simp only [State.motionTick]; split <;> rfl
@[simp] theorem State.motionTick_pressClass (s : State) : s.motionTick.pressClass = s.pressClass := by
  simp only [State.motionTick]; split <;> rfl
@[simp] theorem State.motionTick_halfBrightness (s : State) : s.motionTick.halfBrightness = s.halfBrightness := by
  simp only [State.motionTick]; split <;> rfl
@[simp] theorem State.motionTick_lockout (s : State) : s.motionTick.lockout = s.lockout := by
  simp only [State.motionTick]; split <;> rfl
@[simp] theorem State.motionTick_sched (s : State) : s.motionTick.sched = s.sched := by
  simp only [State.motionTick]; split <;> rfl
@[simp] theorem State.motionTick_fadeInTimer (s : State) : s.motionTick.fadeInTimer = s.fadeInTimer := by
  simp only [State.motionTick]; split <;> rfl
@[simp] theorem State.motionTick_fadeOutTimer (s : State) : s.motionTick.fadeOutTimer = s.fadeOutTimer := by
  simp only [State.motionTick]; split <;> rfl
@[simp] theorem State.motionTick_asleep (s : State) : s.motionTick.asleep = s.asleep := by
  simp only [State.motionTick]; split <;> rfl
@[simp] theorem State.motionTick_zones (s : State) : s.motionTick.zones = s.zones := by
  simp only [State.motionTick]; split <;> rfl
@[simp] theorem State.motionTick_gens (s : State) : s.motionTick.gens = s.gens := by
  simp only [State.motionTick]; split <;> rfl
@[simp] theorem State.motionTick_frame (s : State) : s.motionTick.frame = s.frame := by
  simp only [State.motionTick]; split <;> rfl
@[simp] theorem State.motionTick_dc (s : State) : s.motionTick.dc = s.dc := by
  simp only [State.motionTick]; split <;> rfl
@[simp] theorem State.motionTick_result (s : State) : s.motionTick.result = s.result := by
  simp only [State.motionTick]; split <;> rfl
@[simp] theorem State.motionTick_cmdErr (s : State) : s.motionTick.cmdErr = s.cmdErr := by
  simp only [State.motionTick]; split <;> rfl
@[simp] theorem State.motionTick_frameOut (s : State) : s.motionTick.frameOut = s.frameOut := by
  simp only [State.motionTick]; split <;> rfl
@[simp] theorem State.motionTick_frameValid (s : State) : s.motionTick.frameValid = s.frameValid := by
  simp only [State.motionTick]; split <;> rfl
@[simp] theorem State.motionTick_dcOut (s : State) : s.motionTick.dcOut = s.dcOut := by
  simp only [State.motionTick]; split <;> rfl
@[simp] theorem State.motionTick_dcWrite (s : State) : s.motionTick.dcWrite = s.dcWrite := by
  simp only [State.motionTick]; split <;> rfl

/-! ## releaseEdge writes depressed, pressClass only -/

@[simp] theorem State.releaseEdge_cfg (s : State) : s.releaseEdge.cfg = s.cfg := by
  simp only [State.releaseEdge]; split <;> rfl
@[simp] theorem State.releaseEdge_cmd (s : State) : s.releaseEdge.cmd = s.cmd := by
  simp only [State.releaseEdge]; split <;> rfl
@[simp] theorem State.releaseEdge_now (s : State) : s.releaseEdge.now = s.now := by
  simp only [State.releaseEdge]; split <;> rfl
@[simp] theorem State.releaseEdge_inMotion (s : State) : s.releaseEdge.inMotion = s.inMotion := by
  simp only [State.releaseEdge]; split <;> rfl
@[simp] theorem State.releaseEdge_motionTimer (s : State) : s.releaseEdge.motionTimer = s.motionTimer := by
  simp only [State.releaseEdge]; split <;> rfl
@[simp] theorem State.releaseEdge_lastLevel (s : State) : s.releaseEdge.lastLevel = s.lastLevel := by
  simp only [State.releaseEdge]; split <;> rfl
@[simp] theorem State.releaseEdge_shortTimer (s : State) : s.releaseEdge.shortTimer = s.shortTimer := by
  simp only [State.releaseEdge]; split <;> rfl
@[simp] theorem State.releaseEdge_longTimer (s : State) : s.releaseEdge.longTimer = s.longTimer := by
  simp only [State.releaseEdge]; split <;> rfl
@[simp] theorem State.releaseEdge_halfBrightness (s : State) : s.releaseEdge.halfBrightness = s.halfBrightness := by
  simp only [State.releaseEdge]; split <;> rfl
@[simp] theorem State.releaseEdge_lockout (s : State) : s.releaseEdge.lockout = s.lockout := by
  simp only [State.releaseEdge]; split <;> rfl
@[simp] theorem State.releaseEdge_sched (s : State) : s.releaseEdge.sched = s.sched := by
  simp only [State.releaseEdge]; split <;> rfl
@[simp] theorem State.releaseEdge_fadeInTimer (s : State) : s.releaseEdge.fadeInTimer = s.fadeInTimer := by
  simp only [State.releaseEdge]; split <;> rfl
@[simp] theorem State.releaseEdge_fadeOutTimer (s : State) : s.releaseEdge.fadeOutTimer = s.fadeOutTimer := by
  simp only [State.releaseEdge]; split <;> rfl
@[simp] theorem State.releaseEdge_asleep (s : State) : s.releaseEdge.asleep = s.asleep := by
  simp only [State.releaseEdge]; split <;> rfl
@[simp] theorem State.releaseEdge_zones (s : State) : s.releaseEdge.zones = s.zones := by
  simp only [State.releaseEdge]; split <;> rfl
@[simp] theorem State.releaseEdge_gens (s : State) : s.releaseEdge.gens = s.gens := by
  simp only [State.releaseEdge]; split <;> rfl
@[simp] theorem State.releaseEdge_frame (s : State) : s.releaseEdge.frame = s.frame := by
  simp only [State.releaseEdge]; split <;> rfl
@[simp] theorem State.releaseEdge_dc (s : State) : s.releaseEdge.dc = s.dc := by
  simp only [State.releaseEdge]; split <;> rfl
@[simp] theorem State.releaseEdge_result (s : State) : s.releaseEdge.result = s.result := by
  simp only [State.releaseEdge]; split <;> rfl
@[simp] theorem State.releaseEdge_cmdErr (s : State) : s.releaseEdge.cmdErr = s.cmdErr := by
  simp only [State.releaseEdge]; split <;> rfl
@[simp] theorem State.releaseEdge_frameOut (s : State) : s.releaseEdge.frameOut = s.frameOut := by
  simp only [State.releaseEdge]; split <;> rfl
@[simp] theorem State.releaseEdge_frameValid (s : State) : s.releaseEdge.frameValid = s.frameValid := by
  simp only [State.releaseEdge]; split <;> rfl
@[simp] theorem State.releaseEdge_dcOut (s : State) : s.releaseEdge.dcOut = s.dcOut := by
  simp only [State.releaseEdge]; split <;> rfl
@[simp] theorem State.releaseEdge_dcWrite (s : State) : s.releaseEdge.dcWrite = s.dcWrite := by
  simp only [State.releaseEdge]; split <;> rfl

/-! ## buttonEdge writes lastLevel, depressed, shortTimer, longTimer, pressClass only -/

@[simp] theorem State.buttonEdge_cfg (s : State) (level : Bool) : (s.buttonEdge level).cfg = s.cfg := by
  simp only [State.buttonEdge]; split <;> [rfl; (split <;> simp)]
@[simp] theorem State.buttonEdge_cmd (s : State) (level : Bool) : (s.buttonEdge level).cmd = s.cmd := by
  simp only [State.buttonEdge]; split <;> [rfl; (split <;> simp)]
@[simp] theorem State.buttonEdge_now (s : State) (level : Bool) : (s.buttonEdge level).now = s.now := by
  simp only [State.buttonEdge]; split <;> [rfl; (split <;> simp)]
@[simp] theorem State.buttonEdge_inMotion (s : State) (level : Bool) : (s.buttonEdge level).inMotion = s.inMotion := by
  simp only [State.buttonEdge]; split <;> [rfl; (split <;> simp)]
@[simp] theorem State.buttonEdge_motionTimer (s : State) (level : Bool) : (s.buttonEdge level).motionTimer = s.motionTimer := by
  simp only [State.buttonEdge]; split <;> [rfl; (split <;> simp)]
@[simp] theorem State.buttonEdge_halfBrightness (s : State) (level : Bool) : (s.buttonEdge level).halfBrightness = s.halfBrightness := by
  simp only [State.buttonEdge]; split <;> [rfl; (split <;> simp)]
@[simp] theorem State.buttonEdge_lockout (s : State) (level : Bool) : (s.buttonEdge level).lockout = s.lockout := by
  simp only [State.buttonEdge]; split <;> [rfl; (split <;> simp)]
@[simp] theorem State.buttonEdge_sched (s : State) (level : Bool) : (s.buttonEdge level).sched = s.sched := by
  simp only [State.buttonEdge]; split <;> [rfl; (split <;> simp)]
@[simp] theorem State.buttonEdge_fadeInTimer (s : State) (level : Bool) : (s.buttonEdge level).fadeInTimer = s.fadeInTimer := by
  simp only [State.buttonEdge]; split <;> [rfl; (split <;> simp)]
@[simp] theorem State.buttonEdge_fadeOutTimer (s : State) (level : Bool) : (s.buttonEdge level).fadeOutTimer = s.fadeOutTimer := by
  simp only [State.buttonEdge]; split <;> [rfl; (split <;> simp)]
@[simp] theorem State.buttonEdge_asleep (s : State) (level : Bool) : (s.buttonEdge level).asleep = s.asleep := by
  simp only [State.buttonEdge]; split <;> [rfl; (split <;> simp)]
@[simp] theorem State.buttonEdge_zones (s : State) (level : Bool) : (s.buttonEdge level).zones = s.zones := by
  simp only [State.buttonEdge]; split <;> [rfl; (split <;> simp)]
@[simp] theorem State.buttonEdge_gens (s : State) (level : Bool) : (s.buttonEdge level).gens = s.gens := by
  simp only [State.buttonEdge]; split <;> [rfl; (split <;> simp)]
@[simp] theorem State.buttonEdge_frame (s : State) (level : Bool) : (s.buttonEdge level).frame = s.frame := by
  simp only [State.buttonEdge]; split <;> [rfl; (split <;> simp)]
@[simp] theorem State.buttonEdge_dc (s : State) (level : Bool) : (s.buttonEdge level).dc = s.dc := by
  simp only [State.buttonEdge]; split <;> [rfl; (split <;> simp)]
@[simp] theorem State.buttonEdge_result (s : State) (level : Bool) : (s.buttonEdge level).result = s.result := by
  simp only [State.buttonEdge]; split <;> [rfl; (split <;> simp)]
@[simp] theorem State.buttonEdge_cmdErr (s : State) (level : Bool) : (s.buttonEdge level).cmdErr = s.cmdErr := by
  simp only [State.buttonEdge]; split <;> [rfl; (split <;> simp)]
@[simp] theorem State.buttonEdge_frameOut (s : State) (level : Bool) : (s.buttonEdge level).frameOut = s.frameOut := by
  simp only [State.buttonEdge]; split <;> [rfl; (split <;> simp)]
@[simp] theorem State.buttonEdge_frameValid (s : State) (level : Bool) : (s.buttonEdge level).frameValid = s.frameValid := by
  simp only [State.buttonEdge]; split <;> [rfl; (split <;> simp)]
@[simp] theorem State.buttonEdge_dcOut (s : State) (level : Bool) : (s.buttonEdge level).dcOut = s.dcOut := by
  simp only [State.buttonEdge]; split <;> [rfl; (split <;> simp)]
@[simp] theorem State.buttonEdge_dcWrite (s : State) (level : Bool) : (s.buttonEdge level).dcWrite = s.dcWrite := by
  simp only [State.buttonEdge]; split <;> [rfl; (split <;> simp)]

/-! ## btnConsume writes pressClass, halfBrightness, dc, dcOut, dcWrite, inMotion, motionTimer, lockout only -/

@[simp] theorem State.btnConsume_cfg (s : State) : s.btnConsume.cfg = s.cfg := by
  simp only [State.btnConsume]; split <;> simp
@[simp] theorem State.btnConsume_cmd (s : State) : s.btnConsume.cmd = s.cmd := by
  simp only [State.btnConsume]; split <;> simp
@[simp] theorem State.btnConsume_now (s : State) : s.btnConsume.now = s.now := by
  simp only [State.btnConsume]; split <;> simp
@[simp] theorem State.btnConsume_lastLevel (s : State) : s.btnConsume.lastLevel = s.lastLevel := by
  simp only [State.btnConsume]; split <;> simp
@[simp] theorem State.btnConsume_depressed (s : State) : s.btnConsume.depressed = s.depressed := by
  simp only [State.btnConsume]; split <;> simp
@[simp] theorem State.btnConsume_shortTimer (s : State) : s.btnConsume.shortTimer = s.shortTimer := by
  simp only [State.btnConsume]; split <;> simp
@[simp] theorem State.btnConsume_longTimer (s : State) : s.btnConsume.longTimer = s.longTimer := by
  simp only [State.btnConsume]; split <;> simp
@[simp] theorem State.btnConsume_sched (s : State) : s.btnConsume.sched = s.sched := by
  simp only [State.btnConsume]; split <;> simp
@[simp] theorem State.btnConsume_fadeInTimer (s : State) : s.btnConsume.fadeInTimer = s.fadeInTimer := by
  simp only [State.btnConsume]; split <;> simp
@[simp] theorem State.btnConsume_fadeOutTimer (s : State) : s.btnConsume.fadeOutTimer = s.fadeOutTimer := by
  simp only [State.btnConsume]; split <;> simp
@[simp] theorem State.btnConsume_asleep (s : State) : s.btnConsume.asleep = s.asleep := by
  simp only [State.btnConsume]; split <;> simp
@[simp] theorem State.btnConsume_zones (s : State) : s.btnConsume.zones = s.zones := by
  simp only [State.btnConsume]; split <;> simp
@[simp] theorem State.btnConsume_gens (s : State) : s.btnConsume.gens = s.gens := by
  simp only [State.btnConsume]; split <;> simp
@[simp] theorem State.btnConsume_frame (s : State) : s.btnConsume.frame = s.frame := by
  simp only [State.btnConsume]; split <;> simp
@[simp] theorem State.btnConsume_result (s : State) : s.btnConsume.result = s.result := by
  simp only [State.btnConsume]; split <;> simp
@[simp] theorem State.btnConsume_cmdErr (s : State) : s.btnConsume.cmdErr = s.cmdErr := by
  simp only [State.btnConsume]; split <;> simp
@[simp] theorem State.btnConsume_frameOut (s : State) : s.btnConsume.frameOut = s.frameOut := by
  simp only [State.btnConsume]; split <;> simp
@[simp] theorem State.btnConsume_frameValid (s : State) : s.btnConsume.frameValid = s.frameValid := by
  simp only [State.btnConsume]; split <;> simp

/-! ## motionBegins writes zones, gens, fadeInTimer, sched only -/

@[simp] theorem State.motionBegins_cfg (s : State) : s.motionBegins.cfg = s.cfg := by
  simp only [State.motionBegins]; split <;> simp
@[simp] theorem State.motionBegins_cmd (s : State) : s.motionBegins.cmd = s.cmd := by
  simp only [State.motionBegins]; split <;> simp
@[simp] theorem State.motionBegins_now (s : State) : s.motionBegins.now = s.now := by
  simp only [State.motionBegins]; split <;> simp
@[simp] theorem State.motionBegins_inMotion (s : State) : s.motionBegins.inMotion = s.inMotion := by
  simp only [State.motionBegins]; split <;> simp
@[simp] theorem State.motionBegins_motionTimer (s : State) : s.motionBegins.motionTimer = s.motionTimer := by
  simp only [State.motionBegins]; split <;> simp
@[simp] theorem State.motionBegins_lastLevel (s : State) : s.motionBegins.lastLevel = s.lastLevel := by
  simp only [State.motionBegins]; split <;> simp
@[simp] theorem State.motionBegins_depressed (s : State) : s.motionBegins.depressed = s.depressed := by
  simp only [State.motionBegins]; split <;> simp
@[simp] theorem State.motionBegins_shortTimer (s : State) : s.motionBegins.shortTimer = s.shortTimer := by
  simp only [State.motionBegins]; split <;> simp
@[simp] theorem State.motionBegins_longTimer (s : State) : s.motionBegins.longTimer = s.longTimer := by
  simp only [State.motionBegins]; split <;> simp
@[simp] theorem State.motionBegins_pressClass (s : State) : s.motionBegins.pressClass = s.pressClass := by
  simp only [State.motionBegins]; split <;> simp
@[simp] theorem State.motionBegins_halfBrightness (s : State) : s.motionBegins.halfBrightness = s.halfBrightness := by
  simp only [State.motionBegins]; split <;> simp
@[simp] theorem State.motionBegins_lockout (s : State) : s.motionBegins.lockout = s.lockout := by
  simp only [State.motionBegins]; split <;> simp
@[simp] theorem State.motionBegins_fadeOutTimer (s : State) : s.motionBegins.fadeOutTimer = s.fadeOutTimer := by
  simp only [State.motionBegins]; split <;> simp
@[simp] theorem State.motionBegins_asleep (s : State) : s.motionBegins.asleep = s.asleep := by
  simp only [State.motionBegins]; split <;> simp
@[simp] theorem State.motionBegins_frame (s : State) : s.motionBegins.frame = s.frame := by
  simp only [State.motionBegins]; split <;> simp
@[simp] theorem State.motionBegins_dc (s : State) : s.motionBegins.dc = s.dc := by
  simp only [State.motionBegins]; split <;> simp
@[simp] theorem State.motionBegins_result (s : State) : s.motionBegins.result = s.result := by
  simp only [State.motionBegins]; split <;> simp
@[simp] theorem State.motionBegins_cmdErr (s : State) : s.motionBegins.cmdErr = s.cmdErr := by
  simp only [State.motionBegins]; split <;> simp
@[simp] theorem State.motionBegins_frameOut (s : State) : s.motionBegins.frameOut = s.frameOut := by
  simp only [State.motionBegins]; split <;> simp
@[simp] theorem State.motionBegins_frameValid (s : State) : s.motionBegins.frameValid = s.frameValid := by
  simp only [State.motionBegins]; split <;> simp
@[simp] theorem State.motionBegins_dcOut (s : State) : s.motionBegins.dcOut = s.dcOut := by
  simp only [State.motionBegins]; split <;> simp
@[simp] theorem State.motionBegins_dcWrite (s : State) : s.motionBegins.dcWrite = s.dcWrite := by
  simp only [State.motionBegins]; split <;> simp

/-! ## fadeInDone writes gens, sched only -/

@[simp] theorem State.fadeInDone_cfg (s : State) : s.fadeInDone.cfg = s.cfg := by
  simp only [State.fadeInDone]; split <;> simp
@[simp] theorem State.fadeInDone_cmd (s : State) : s.fadeInDone.cmd = s.cmd := by
  simp only [State.fadeInDone]; split <;> simp
@[simp] theorem State.fadeInDone_now (s : State) : s.fadeInDone.now = s.now := by
  simp only [State.fadeInDone]; split <;> simp
@[simp] theorem State.fadeInDone_inMotion (s : State) : s.fadeInDone.inMotion = s.inMotion := by
  simp only [State.fadeInDone]; split <;> simp
@[simp] theorem State.fadeInDone_motionTimer (s : State) : s.fadeInDone.motionTimer = s.motionTimer := by
  simp only [State.fadeInDone]; split <;> simp
@[simp] theorem State.fadeInDone_lastLevel (s : State) : s.fadeInDone.lastLevel = s.lastLevel := by
  simp only [State.fadeInDone]; split <;> simp
@[simp] theorem State.fadeInDone_depressed (s : State) : s.fadeInDone.depressed = s.depressed := by
  simp only [State.fadeInDone]; split <;> simp
@[simp] theorem State.fadeInDone_shortTimer (s : State) : s.fadeInDone.shortTimer = s.shortTimer := by
  simp only [State.fadeInDone]; split <;> simp
@[simp] theorem State.fadeInDone_longTimer (s : State) : s.fadeInDone.longTimer = s.longTimer := by
  simp only [State.fadeInDone]; split <;> simp
@[simp] theorem State.fadeInDone_pressClass (s : State) : s.fadeInDone.pressClass = s.pressClass := by
  simp only [State.fadeInDone]; split <;> simp
@[simp] theorem State.fadeInDone_halfBrightness (s : State) : s.fadeInDone.halfBrightness = s.halfBrightness := by
  simp only [State.fadeInDone]; split <;> simp
@[simp] theorem State.fadeInDone_lockout (s : State) : s.fadeInDone.lockout = s.lockout := by
  simp only [State.fadeInDone]; split <;> simp
@[simp] theorem State.fadeInDone_fadeInTimer (s : State) : s.fadeInDone.fadeInTimer = s.fadeInTimer := by
  simp only [State.fadeInDone]; split <;> simp
@[simp] theorem State.fadeInDone_fadeOutTimer (s : State) : s.fadeInDone.fadeOutTimer = s.fadeOutTimer := by
  simp only [State.fadeInDone]; split <;> simp
@[simp] theorem State.fadeInDone_asleep (s : State) : s.fadeInDone.asleep = s.asleep := by
  simp only [State.fadeInDone]; split <;> simp
@[simp] theorem State.fadeInDone_zones (s : State) : s.fadeInDone.zones = s.zones := by
  simp only [State.fadeInDone]; split <;> simp
@[simp] theorem State.fadeInDone_frame (s : State) : s.fadeInDone.frame = s.frame := by
  simp only [State.fadeInDone]; split <;> simp
@[simp] theorem State.fadeInDone_dc (s : State) : s.fadeInDone.dc = s.dc := by
  simp only [State.fadeInDone]; split <;> simp
@[simp] theorem State.fadeInDone_result (s : State) : s.fadeInDone.result = s.result := by
  simp only [State.fadeInDone]; split <;> simp
@[simp] theorem State.fadeInDone_cmdErr (s : State) : s.fadeInDone.cmdErr = s.cmdErr := by
  simp only [State.fadeInDone]; split <;> simp
@[simp] theorem State.fadeInDone_frameOut (s : State) : s.fadeInDone.frameOut = s.frameOut := by
  simp only [State.fadeInDone]; split <;> simp
@[simp] theorem State.fadeInDone_frameValid (s : State) : s.fadeInDone.frameValid = s.frameValid := by
  simp only [State.fadeInDone]; split <;> simp
@[simp] theorem State.fadeInDone_dcOut (s : State) : s.fadeInDone.dcOut = s.dcOut := by
  simp only [State.fadeInDone]; split <;> simp
@[simp] theorem State.fadeInDone_dcWrite (s : State) : s.fadeInDone.dcWrite = s.dcWrite := by
  simp only [State.fadeInDone]; split <;> simp

/-! ## motionEnds writes zones, gens, fadeOutTimer, sched only -/

@[simp] theorem State.motionEnds_cfg (s : State) : s.motionEnds.cfg = s.cfg := by
  simp [State.motionEnds]
@[simp] theorem State.motionEnds_cmd (s : State) : s.motionEnds.cmd = s.cmd := by
  simp [State.motionEnds]
@[simp] theorem State.motionEnds_now (s : State) : s.motionEnds.now = s.now := by
  simp [State.motionEnds]
@[simp] theorem State.motionEnds_inMotion (s : State) : s.motionEnds.inMotion = s.inMotion := by
  simp [State.motionEnds]
@[simp] theorem State.motionEnds_motionTimer (s : State) : s.motionEnds.motionTimer = s.motionTimer := by
  simp [State.motionEnds]
@[simp] theorem State.motionEnds_lastLevel (s : State) : s.motionEnds.lastLevel = s.lastLevel := by
  simp [State.motionEnds]
@[simp] theorem State.motionEnds_depressed (s : State) : s.motionEnds.depressed = s.depressed := by
  simp [State.motionEnds]
@[simp] theorem State.motionEnds_shortTimer (s : State) : s.motionEnds.shortTimer = s.shortTimer := by
  simp [State.motionEnds]
@[simp] theorem State.motionEnds_longTimer (s : State) : s.motionEnds.longTimer = s.longTimer := by
  simp [State.motionEnds]
@[simp] theorem State.motionEnds_pressClass (s : State) : s.motionEnds.pressClass = s.pressClass := by
  simp [State.motionEnds]
@[simp] theorem State.motionEnds_halfBrightness (s : State) : s.motionEnds.halfBrightness = s.halfBrightness := by
  simp [State.motionEnds]
@[simp] theorem State.motionEnds_lockout (s : State) : s.motionEnds.lockout = s.lockout := by
  simp [State.motionEnds]
@[simp] theorem State.motionEnds_fadeInTimer (s : State) : s.motionEnds.fadeInTimer = s.fadeInTimer := by
  simp [State.motionEnds]
@[simp] theorem State.motionEnds_asleep (s : State) : s.motionEnds.asleep = s.asleep := by
  simp [State.motionEnds]
@[simp] theorem State.motionEnds_frame (s : State) : s.motionEnds.frame = s.frame := by
  simp [State.motionEnds]
@[simp] theorem State.motionEnds_dc (s : State) : s.motionEnds.dc = s.dc := by
  simp [State.motionEnds]
@[simp] theorem State.motionEnds_result (s : State) : s.motionEnds.result = s.result := by
  simp [State.motionEnds]
@[simp] theorem State.motionEnds_cmdErr (s : State) : s.motionEnds.cmdErr = s.cmdErr := by
  simp [State.motionEnds]
@[simp] theorem State.motionEnds_frameOut (s : State) : s.motionEnds.frameOut = s.frameOut := by
  simp [State.motionEnds]
@[simp] theorem State.motionEnds_frameValid (s : State) : s.motionEnds.frameValid = s.frameValid := by
  simp [State.motionEnds]
@[simp] theorem State.motionEnds_dcOut (s : State) : s.motionEnds.dcOut = s.dcOut := by
  simp [State.motionEnds]
@[simp] theorem State.motionEnds_dcWrite (s : State) : s.motionEnds.dcWrite = s.dcWrite := by
  simp [State.motionEnds]

/-! ## transition writes zones, gens, fadeInTimer, fadeOutTimer, sched only -/

@[simp] theorem State.transition_cfg (s : State) : s.transition.cfg = s.cfg := by
  simp only [State.transition]; (repeat' split) <;> simp
@[simp] theorem State.transition_cmd (s : State) : s.transition.cmd = s.cmd := by
  simp only [State.transition]; (repeat' split) <;> simp
@[simp] theorem State.transition_now (s : State) : s.transition.now = s.now := by
  simp only [State.transition]; (repeat' split) <;> simp
@[simp] theorem State.transition_inMotion (s : State) : s.transition.inMotion = s.inMotion := by
  simp only [State.transition]; (repeat' split) <;> simp
@[simp] theorem State.transition_motionTimer (s : State) : s.transition.motionTimer = s.motionTimer := by
  simp only [State.transition]; (repeat' split) <;> simp
@[simp] theorem State.transition_lastLevel (s : State) : s.transition.lastLevel = s.lastLevel := by
  simp only [State.transition]; (repeat' split) <;> simp
@[simp] theorem State.transition_depressed (s : State) : s.transition.depressed = s.depressed := by
  simp only [State.transition]; (repeat' split) <;> simp
@[simp] theorem State.transition_shortTimer (s : State) : s.transition.shortTimer = s.shortTimer := by
  simp only [State.transition]; (repeat' split) <;> simp
@[simp] theorem State.transition_longTimer (s : State) : s.transition.longTimer = s.longTimer := by
  simp only [State.transition]; (repeat' split) <;> simp
@[simp] theorem State.transition_pressClass (s : State) : s.transition.pressClass = s.pressClass := by
  simp only [State.transition]; (repeat' split) <;> simp
@[simp] theorem State.transition_halfBrightness (s : State) : s.transition.halfBrightness = s.halfBrightness := by
  simp only [State.transition]; (repeat' split) <;> simp
@[simp] theorem State.transition_lockout (s : State) : s.transition.lockout = s.lockout := by
  simp only [State.transition]; (repeat' split) <;> simp
@[simp] theorem State.transition_asleep (s : State) : s.transition.asleep = s.asleep := by
  simp only [State.transition]; (repeat' split) <;> simp
@[simp] theorem State.transition_frame (s : State) : s.transition.frame = s.frame := by
  simp only [State.transition]; (repeat' split) <;> simp
@[simp] theorem State.transition_dc (s : State) : s.transition.dc = s.dc := by
  simp only [State.transition]; (repeat' split) <;> simp
@[simp] theorem State.transition_result (s : State) : s.transition.result = s.result := by
  simp only [State.transition]; (repeat' split) <;> simp
@[simp] theorem State.transition_cmdErr (s : State) : s.transition.cmdErr = s.cmdErr := by
  simp only [State.transition]; (repeat' split) <;> simp
@[simp] theorem State.transition_frameOut (s : State) : s.transition.frameOut = s.frameOut := by
  simp only [State.transition]; (repeat' split) <;> simp
@[simp] theorem State.transition_frameValid (s : State) : s.transition.frameValid = s.frameValid := by
  simp only [State.transition]; (repeat' split) <;> simp
@[simp] theorem State.transition_dcOut (s : State) : s.transition.dcOut = s.dcOut := by
  simp only [State.transition]; (repeat' split) <;> simp
@[simp] theorem State.transition_dcWrite (s : State) : s.transition.dcWrite = s.dcWrite := by
  simp only [State.transition]; (repeat' split) <;> simp

/-! ## sleepRequest writes asleep only -/

@[simp] theorem State.sleepRequest_cfg (s : State) : s.sleepRequest.cfg = s.cfg := by
  simp only [State.sleepRequest]; split <;> rfl
@[simp] theorem State.sleepRequest_cmd (s : State) : s.sleepRequest.cmd = s.cmd := by
  simp only [State.sleepRequest]; split <;> rfl
@[simp] theorem State.sleepRequest_now (s : State) : s.sleepRequest.now = s.now := by
  simp only [State.sleepRequest]; split <;> rfl
@[simp] theorem State.sleepRequest_inMotion (s : State) : s.sleepRequest.inMotion = s.inMotion := by
  simp only [State.sleepRequest]; split <;> rfl
@[simp] theorem State.sleepRequest_motionTimer (s : State) : s.sleepRequest.motionTimer = s.motionTimer := by
  simp only [State.sleepRequest]; split <;> rfl
@[simp] theorem State.sleepRequest_lastLevel (s : State) : s.sleepRequest.lastLevel = s.lastLevel := by
  simp only [State.sleepRequest]; split <;> rfl
@[simp] theorem State.sleepRequest_depressed (s : State) : s.sleepRequest.depressed = s.depressed := by
  simp only [State.sleepRequest]; split <;> rfl
@[simp] theorem State.sleepRequest_shortTimer (s : State) : s.sleepRequest.shortTimer = s.shortTimer := by
  simp only [State.sleepRequest]; split <;> rfl
@[simp] theorem State.sleepRequest_longTimer (s : State) : s.sleepRequest.longTimer = s.longTimer := by
  simp only [State.sleepRequest]; split <;> rfl
@[simp] theorem State.sleepRequest_pressClass (s : State) : s.sleepRequest.pressClass = s.pressClass := by
  simp only [State.sleepRequest]; split <;> rfl
@[simp] theorem State.sleepRequest_halfBrightness (s : State) : s.sleepRequest.halfBrightness = s.halfBrightness := by
  simp only [State.sleepRequest]; split <;> rfl
@[simp] theorem State.sleepRequest_lockout (s : State) : s.sleepRequest.lockout = s.lockout := by
  simp only [State.sleepRequest]; split <;> rfl
@[simp] theorem State.sleepRequest_sched (s : State) : s.sleepRequest.sched = s.sched := by
  simp only [State.sleepRequest]; split <;> rfl
@[simp] theorem State.sleepRequest_fadeInTimer (s : State) : s.sleepRequest.fadeInTimer = s.fadeInTimer := by
  simp only [State.sleepRequest]; split <;> rfl
@[simp] theorem State.sleepRequest_fadeOutTimer (s : State) : s.sleepRequest.fadeOutTimer = s.fadeOutTimer := by
  simp only [State.sleepRequest]; split <;> rfl
@[simp] theorem State.sleepRequest_zones (s : State) : s.sleepRequest.zones = s.zones := by
  simp only [State.sleepRequest]; split <;> rfl
@[simp] theorem State.sleepRequest_gens (s : State) : s.sleepRequest.gens = s.gens := by
  simp only [State.sleepRequest]; split <;> rfl
@[simp] theorem State.sleepRequest_frame (s : State) : s.sleepRequest.frame = s.frame := by
  simp only [State.sleepRequest]; split <;> rfl
@[simp] theorem State.sleepRequest_dc (s : State) : s.sleepRequest.dc = s.dc := by
  simp only [State.sleepRequest]; split <;> rfl
@[simp] theorem State.sleepRequest_result (s : State) : s.sleepRequest.result = s.result := by
  simp only [State.sleepRequest]; split <;> rfl
@[simp] theorem State.sleepRequest_cmdErr (s : State) : s.sleepRequest.cmdErr = s.cmdErr := by
  simp only [State.sleepRequest]; split <;> rfl
@[simp] theorem State.sleepRequest_frameOut (s : State) : s.sleepRequest.frameOut = s.frameOut := by
  simp only [State.sleepRequest]; split <;> rfl
@[simp] theorem State.sleepRequest_frameValid (s : State) : s.sleepRequest.frameValid = s.frameValid := by
  simp only [State.sleepRequest]; split <;> rfl
@[simp] theorem State.sleepRequest_dcOut (s : State) : s.sleepRequest.dcOut = s.dcOut := by
  simp only [State.sleepRequest]; split <;> rfl
@[simp] theorem State.sleepRequest_dcWrite (s : State) : s.sleepRequest.dcWrite = s.dcWrite := by
  simp only [State.sleepRequest]; split <;> rfl

/-! ## schedStep writes zones, gens, fadeInTimer, fadeOutTimer, sched, asleep only -/

@[simp] theorem State.schedStep_cfg (s : State) : s.schedStep.cfg = s.cfg := by
  simp [State.schedStep]
@[simp] theorem State.schedStep_cmd (s : State) : s.schedStep.cmd = s.cmd := by
  simp [State.schedStep]
@[simp] theorem State.schedStep_now (s : State) : s.schedStep.now = s.now := by
  simp [State.schedStep]
@[simp] theorem State.schedStep_inMotion (s : State) : s.schedStep.inMotion = s.inMotion := by
  simp [State.schedStep]
@[simp] theorem State.schedStep_motionTimer (s : State) : s.schedStep.motionTimer = s.motionTimer := by
  simp [State.schedStep]
@[simp] theorem State.schedStep_lastLevel (s : State) : s.schedStep.lastLevel = s.lastLevel := by
  simp [State.schedStep]
@[simp] theorem State.schedStep_depressed (s : State) : s.schedStep.depressed = s.depressed := by
  simp [State.schedStep]
@[simp] theorem State.schedStep_shortTimer (s : State) : s.schedStep.shortTimer = s.shortTimer := by
  simp [State.schedStep]
@[simp] theorem State.schedStep_longTimer (s : State) : s.schedStep.longTimer = s.longTimer := by
  simp [State.schedStep]
@[simp] theorem State.schedStep_pressClass (s : State) : s.schedStep.pressClass = s.pressClass := by
  simp [State.schedStep]
@[simp] theorem State.schedStep_halfBrightness (s : State) : s.schedStep.halfBrightness = s.halfBrightness := by
  simp [State.schedStep]
@[simp] theorem State.schedStep_lockout (s : State) : s.schedStep.lockout = s.lockout := by
  simp [State.schedStep]
@[simp] theorem State.schedStep_frame (s : State) : s.schedStep.frame = s.frame := by
  simp [State.schedStep]
@[simp] theorem State.schedStep_dc (s : State) : s.schedStep.dc = s.dc := by
  simp [State.schedStep]
@[simp] theorem State.schedStep_result (s : State) : s.schedStep.result = s.result := by
  simp [State.schedStep]
@[simp] theorem State.schedStep_cmdErr (s : State) : s.schedStep.cmdErr = s.cmdErr := by
  simp [State.schedStep]
@[simp] theorem State.schedStep_frameOut (s : State) : s.schedStep.frameOut = s.frameOut := by
  simp [State.schedStep]
@[simp] theorem State.schedStep_frameValid (s : State) : s.schedStep.frameValid = s.frameValid := by
  simp [State.schedStep]
@[simp] theorem State.schedStep_dcOut (s : State) : s.schedStep.dcOut = s.dcOut := by
  simp [State.schedStep]
@[simp] theorem State.schedStep_dcWrite (s : State) : s.schedStep.dcWrite = s.dcWrite := by
  simp [State.schedStep]

end Sys2Proof.Machine
end

