-- ==== Sys2Proof/Laws/Duties.lean ====
section
/-! SUPPORT. Laws/Duties.lean: a claim with the duty R246 (ii) as its named premise: with a POLL between any two TICKs
while awake the reaction to an expired hold time is tick-exact (R152, R218). -/

namespace Sys2Proof.Machine

/-- The reaction to the hold time is not overdue: an expired timer has cleared `inMotion`, unless a POLL is still `owed`
since the last TICK, and a sleeping block is not in motion (R187). -/
def State.motionSettled (owed : Bool) (s : State) : Prop :=
  (owed = false → s.motionTimer = 0 → s.inMotion = false) ∧ (s.asleep = true → s.inMotion = false)

/-- What depends on three registers alone carries over to every state that agrees on them. -/
theorem State.motionSettled_congr {owed : Bool} {s t : State} (hm : t.motionTimer = s.motionTimer)
    (hi : t.inMotion = s.inMotion) (ha : t.asleep = s.asleep) (h : s.motionSettled owed) : t.motionSettled owed := by
  simpa only [State.motionSettled, hm, hi, ha] using h

/-- BTN_CONSUME never turns motion on: it leaves the two registers or clears both. -/
theorem State.btnConsume_settled {owed : Bool} {s : State} (h : s.motionSettled owed) :
    s.btnConsume.motionSettled owed := by
  obtain ⟨h1, h2⟩ := h
  simp only [State.motionSettled, State.btnConsume]
  split <;> simp_all

/-- MOTION_TICK settles the reaction, whatever was owed (R151). -/
theorem State.motionTick_settles {owed : Bool} {s : State} (h : s.motionSettled owed) :
    s.motionTick.motionSettled false := by
  obtain ⟨-, h2⟩ := h
  simp only [State.motionSettled, State.motionTick]
  split <;> simp_all

/-- SCHED_STEP sleeps only without motion (R187). -/
theorem State.schedStep_settled {owed : Bool} {s : State} (h : s.motionSettled owed) :
    s.schedStep.motionSettled owed := by
  obtain ⟨h1, h2⟩ := h
  refine ⟨by simpa using h1, ?_⟩
  simp only [State.schedStep, State.sleepRequest]
  split
  · rename_i hs
    simp only [State.sleepCondition, Bool.and_eq_true, State.transition_inMotion] at hs
    simpa using hs.1.1.1.2
  · simpa using h2

/-- A POLL while awake settles the reaction; one while asleep finds it settled (R214, R215). -/
theorem State.poll_settles {owed : Bool} {s : State} (h : s.motionSettled owed) : s.poll.motionSettled false := by
  simp only [State.poll]
  split
  · rename_i ha
    exact ⟨fun _ _ => h.2 ha, h.2⟩
  · have := State.schedStep_settled (State.motionTick_settles (State.btnConsume_settled h))
    exact State.motionSettled_congr (by simp) (by simp) (by simp) this

/-- Every operation but TICK, POLL and RESET keeps the reaction settled or owed as it was, with a hold time that is not
0. -/
theorem afterOp_settled {owed : Bool} {i : Instr} {s : State} (hc : s.cfg.holdMs ≠ 0) (ht : i ≠ .tick)
    (h : s.motionSettled owed) : (afterOp i s).motionSettled owed := by
  have hb : s.beginOp.motionSettled owed := h
  cases i
  case tick => exact absurd rfl ht
  case poll => exact ⟨fun _ => (State.poll_settles hb).1 rfl, (State.poll_settles hb).2⟩
  case reset => exact ⟨fun _ _ => rfl, fun _ => rfl⟩
  case motionEdge =>
    obtain ⟨h1, h2⟩ := h
    simp only [afterOp, exec, execMotionEdge, perform, State.motionEdge, State.motionSettled]
    split <;> simp_all
  case motionTick => exact ⟨fun _ => (State.motionTick_settles hb).1 rfl, (State.motionTick_settles hb).2⟩
  case btnConsume => exact State.btnConsume_settled hb
  case schedStep => exact State.schedStep_settled hb
  case refresh => exact ⟨hb.1, fun ha => by simp [afterOp, exec, execRefresh, perform] at ha⟩
  case buttonEdge level =>
    refine ⟨?_, fun ha => ?_⟩
    · simpa [afterOp, exec, execButtonEdge, perform] using hb.1
    · simp [afterOp, exec, execButtonEdge, perform] at ha
  case status => exact hb
  all_goals
    simp only [afterOp, exec, execGenStart, execGenStop, execGenIsrun, execGenStep, execZoneOn, execZoneOff,
      execZoneRun, performGen, performZone]
    split
    · rename_i heq
      split at heq <;> cases heq <;> exact State.motionSettled_congr (by simp) (by simp) (by simp) h
    · exact h
    · exact h

/-- No operation changes the configuration (R6, R41, R73). -/
theorem afterOp_cfg (i : Instr) (s : State) : (afterOp i s).cfg = s.cfg := by
  cases i
  case poll => simp only [afterOp, exec, execPoll, perform, State.poll]; split <;> simp
  all_goals first
    | rfl
    | simp [afterOp, exec, execMotionEdge, execButtonEdge, execMotionTick, execBtnConsume, execSchedStep, perform]; done
    | (simp only [afterOp, exec, execGenStart, execGenStop, execGenIsrun, execGenStep, execZoneOn, execZoneOff,
        execZoneRun, performGen, performZone]
       split
       · rename_i heq
         split at heq <;> cases heq <;> simp
       · rfl
       · rfl)

/-- Under the duty R246 (ii) an expired hold time has been acted on before the next TICK: in a run from a settled state
with a POLL between any two TICKs while awake, the state in which a further TICK finds the block has `inMotion` off
whenever `motionTimer` is 0. -/
theorem expiry_acted_on_before_next_tick (ops : List Instr) (owed : Bool) (s t : State) (hc : s.cfg.holdMs ≠ 0)
    (h : s.motionSettled owed) (hd : pollsKeepUp owed (ops ++ [.tick]) s = true) (ht : execList ops s = .next t)
    (h0 : t.motionTimer = 0) : t.inMotion = false := by
  induction ops generalizing s owed with
  | nil =>
    cases ht
    simp [pollsKeepUp] at hd
    exact h.1 hd h0
  | cons i is ih =>
    have hn : execList is (afterOp i s) = .next t := by
      simp only [execList] at ht
      split at ht
      · rename_i u hu; simpa only [afterOp, hu] using ht
      · cases ht
      · cases ht
    have hcfg : (afterOp i s).cfg.holdMs ≠ 0 := by rw [afterOp_cfg]; exact hc
    simp only [List.cons_append, pollsKeepUp] at hd
    split at hd
    · rename_i hi
      subst hi
      rw [Bool.and_eq_true] at hd
      exact ih true _ hcfg ⟨fun hf => absurd hf (by simp), fun ha => by simp [afterOp, exec, execTick, perform] at ha⟩
        hd.2 hn
    · rename_i hi
      split at hd
      · rename_i hp
        subst hp
        exact ih false _ hcfg (State.poll_settles (s := s.beginOp) (owed := owed) h) hd hn
      · have hs := afterOp_settled hc hi h
        refine ih _ _ hcfg ⟨fun hf => ?_, hs.2⟩ hd hn
        cases ha : (afterOp i s).asleep
        · exact hs.1 (by simpa [ha] using hf)
        · exact fun _ => hs.2 ha

end Sys2Proof.Machine
end

