-- ==== Sys2Proof/Laws/Encoding.lean ====
section
/-! SUPPORT. Laws/Encoding.lean: an operation word is its three fields, and masks act field by field (R80, R81). -/

namespace Sys2Proof

@[simp] theorem opField_fieldsWord (op idx : BitVec 8) (imm : Half) : opField (fieldsWord op idx imm) = op := by
  apply BitVec.eq_of_getLsbD_eq
  intro i hi
  simp [opField, fieldsWord, BitVec.getLsbD_extractLsb']
  grind

@[simp] theorem idxField_fieldsWord (op idx : BitVec 8) (imm : Half) : idxField (fieldsWord op idx imm) = idx := by
  apply BitVec.eq_of_getLsbD_eq
  intro i hi
  simp [idxField, fieldsWord, BitVec.getLsbD_extractLsb']
  grind

@[simp] theorem immField_fieldsWord (op idx : BitVec 8) (imm : Half) : immField (fieldsWord op idx imm) = imm := by
  apply BitVec.eq_of_getLsbD_eq
  intro i hi
  simp [immField, fieldsWord, BitVec.getLsbD_extractLsb']
  grind

@[simp] theorem levelField_fieldsWord (op idx : BitVec 8) (imm : Half) :
    levelField (fieldsWord op idx imm) = imm.getLsbD 0 := by
  rw [levelField, fieldsWord, BitVec.getLsbD_append]
  rfl

/-- A word is its fields. -/
theorem fieldsWord_fields (w : Word) : fieldsWord (opField w) (idxField w) (immField w) = w := by
  apply BitVec.eq_of_getLsbD_eq
  intro i hi
  simp [opField, idxField, immField, fieldsWord]
  grind

theorem fieldsWord_inj {op op' idx idx' : BitVec 8} {imm imm' : Half} :
    fieldsWord op idx imm = fieldsWord op' idx' imm' ↔ op = op' ∧ idx = idx' ∧ imm = imm' := by
  constructor
  · intro h
    exact ⟨by simpa using congrArg opField h, by simpa using congrArg idxField h, by simpa using congrArg immField h⟩
  · rintro ⟨rfl, rfl, rfl⟩
    rfl

/-- A mask acts on each field by itself. -/
theorem fieldsWord_and (op op' idx idx' : BitVec 8) (imm imm' : Half) :
    fieldsWord op idx imm &&& fieldsWord op' idx' imm' =
      fieldsWord (op &&& op') (idx &&& idx') (imm &&& imm') := by
  apply BitVec.eq_of_getLsbD_eq
  intro i hi
  simp [fieldsWord]
  grind

/-- The must-be-0 bits of the four formats, field by field (R80). -/
theorem reserved_fields :
    Format.E.reserved = fieldsWord 0 0xFF 0xFFFF ∧ Format.L.reserved = fieldsWord 0 0xFF 0xFFFE ∧
    Format.I.reserved = fieldsWord 0 0 0xFFFF ∧ Format.D.reserved = fieldsWord 0 0 0 := by decide

/-- A word is 0 when each of its fields is. -/
theorem fieldsWord_eq_zero {op idx : BitVec 8} {imm : Half} :
    fieldsWord op idx imm = 0 ↔ op = 0 ∧ idx = 0 ∧ imm = 0 := by
  have : (0 : Word) = fieldsWord 0 0 0 := by decide
  rw [this, fieldsWord_inj]

/-- A word is transported as four bytes and read back from them (R65). -/
theorem wordOfBytes_bytesOfWord (w : Word) :
    wordOfBytes (w.extractLsb' 0 8) (w.extractLsb' 8 8) (w.extractLsb' 16 8) (w.extractLsb' 24 8) = w := by
  apply BitVec.eq_of_getLsbD_eq
  intro i hi
  simp [wordOfBytes]
  grind

end Sys2Proof
end

