-- ==== Sys2Proof/Laws/Loops.lean ====
section
/-! SUPPORT. Laws/Loops.lean: what the loops over zones, generators and channels leave in the register files and in the
address spaces. -/

namespace Sys2Proof.Machine

/-! ## The form of the address spaces -/

theorem State.spaceOk_congr {s t : State} {sp : Space} (hc : t.cfg = s.cfg) (hs : t.space sp = s.space sp)
    (h : s.spaceOk sp) : t.spaceOk sp := by
  simpa only [State.spaceOk, hc, hs] using h

theorem State.foldl_write_cfg (s : State) (sp : Space) (val : State → Nat → Half) (l : List Nat) :
    (l.foldl (fun t ch => t.memWrite sp ch (val t ch)) s).cfg = s.cfg :=
  foldl_keeps State.cfg _ (fun t _ => by cases sp <;> rfl) _ _

/-- A loop of writes to channels below `N` keeps both address spaces in form. -/
theorem State.foldl_write_spaceOk (s : State) (sp sp' : Space) (val : State → Nat → Half) (l : List Nat)
    (hl : ∀ ch ∈ l, ch < s.cfg.n) (h : s.spaceOk sp') :
    (l.foldl (fun t ch => t.memWrite sp ch (val t ch)) s).spaceOk sp' := by
  induction l generalizing s with
  | nil => exact h
  | cons c l ih =>
    refine ih _ (fun ch hch => ?_) (State.memWrite_spaceOk s sp sp' c _ (hl c (by simp)) h)
    have := hl ch (by simp [hch])
    cases sp <;> exact this

/-- A loop of writes of values that depend on channel and configuration only: a channel that is written holds its
value, every other channel what it held. -/
theorem State.memRead_foldl_write (s : State) (sp : Space) (val : Config → Nat → Half) (l : List Nat)
    (h : Memory.wf (unlisted s.cfg sp) (s.space sp)) (a : Nat) :
    (l.foldl (fun t ch => t.memWrite sp ch (val t.cfg ch)) s).memRead sp a =
      if a ∈ l then val s.cfg a else s.memRead sp a := by
  induction l generalizing s with
  | nil => simp
  | cons c l ih =>
    have hc : (s.memWrite sp c (val s.cfg c)).cfg = s.cfg := by cases sp <;> rfl
    have hw : Memory.wf (unlisted (s.memWrite sp c (val s.cfg c)).cfg sp)
        ((s.memWrite sp c (val s.cfg c)).space sp) := by
      cases sp <;> exact Memory.write_wf _ _ c _ h
    rw [List.foldl_cons, ih _ hw, hc]
    by_cases ha : a ∈ l
    · simp [ha]
    · by_cases hac : a = c
      · subst hac
        simp [ha, State.memRead_memWrite_same s sp a _ h]
      · simp [ha, hac, State.memRead_memWrite_other s sp c a _ hac]

/-- DC after a Short press (R164): every channel holds its value in the table of the new mode. -/
theorem State.memRead_shortAction (s : State) (h : Memory.wf (unlisted s.cfg .dc) s.dc) (a : Nat) :
    s.shortAction.memRead .dc a =
      if a < s.cfg.n then (if s.halfBrightness then s.cfg.dcFullAt a else s.cfg.dcHalfAt a) else s.memRead .dc a := by
  have hb : ∀ (l : List Nat) (u : State), u.halfBrightness = (!s.halfBrightness) →
      l.foldl (fun u ch => u.memWrite .dc ch (if u.halfBrightness then u.cfg.dcHalfAt ch else u.cfg.dcFullAt ch)) u =
      l.foldl (fun u ch => u.memWrite .dc ch
        (if s.halfBrightness then u.cfg.dcFullAt ch else u.cfg.dcHalfAt ch)) u := by
    intro l
    induction l with
    | nil => intros; rfl
    | cons c l ih =>
      intro u hu
      simp only [List.foldl_cons]
      rw [ih _ (by simpa using hu)]
      congr 2
      cases hh : s.halfBrightness <;> simp [hu, hh]
  have key := State.memRead_foldl_write { s with halfBrightness := !s.halfBrightness } .dc
    (fun c ch => if s.halfBrightness then c.dcFullAt ch else c.dcHalfAt ch) (List.range s.cfg.n) h a
  rw [← hb _ _ rfl] at key
  simp only [List.mem_range] at key
  exact key

/-- What a Short press presents on `dc_out` is the table it wrote (R164). -/
theorem State.shortAction_dcOut (s : State) : s.shortAction.dcOut = s.shortAction.vector .dc := rfl

@[simp] theorem State.shortAction_halfBrightness (s : State) : s.shortAction.halfBrightness = !s.halfBrightness :=
  foldl_keeps State.halfBrightness _ (fun _ _ => by rfl) _ _

@[simp] theorem State.shortAction_dcWrite (s : State) : s.shortAction.dcWrite = true := rfl

/-! ## A commit (R68) -/

theorem State.memRead_commit (s : State) (z : Nat) (v : Half) (h : Memory.wf (unlisted s.cfg .frame) s.frame) (a : Nat) :
    (s.commit z v).memRead .frame a =
      if a ∈ (s.cfg.zoneCfg z).channels then clampB s.cfg v else s.memRead .frame a :=
  State.memRead_foldl_write s .frame (fun c _ => clampB c v) _ h a

theorem State.commit_spaceOk (s : State) (z : Nat) (v : Half) (sp : Space)
    (hl : ∀ ch ∈ (s.cfg.zoneCfg z).channels, ch < s.cfg.n) (h : s.spaceOk sp) : (s.commit z v).spaceOk sp :=
  State.foldl_write_spaceOk s .frame sp (fun t _ => clampB t.cfg v) _ hl h

/-! ## The configuration -/

/-- In a well-formed configuration every channel of a zone exists. -/
theorem Config.channels_lt {c : Config} (h : c.wf) {z ch : Nat} (hch : ch ∈ (c.zoneCfg z).channels) : ch < c.n := by
  simp only [Config.zoneCfg, List.getD_eq_getElem?_getD] at hch
  cases hz : c.zones[z]? with
  | none => simp [hz] at hch
  | some zc =>
    simp only [hz, Option.getD_some] at hch
    exact h.2.2.2.2.2.1 zc (List.mem_of_getElem? hz) ch hch

/-- In a well-formed configuration no channel belongs to two zones (R63). -/
theorem Config.channels_disjoint {c : Config} (h : c.wf) {z y ch : Nat} (hz : ch ∈ (c.zoneCfg z).channels)
    (hy : ch ∈ (c.zoneCfg y).channels) : z = y := by
  have key : ∀ (l : List ZoneCfg), (l.flatMap ZoneCfg.channels).Nodup → ∀ i j : Nat,
      ch ∈ (l.getD i ⟨[], .fade⟩).channels → ch ∈ (l.getD j ⟨[], .fade⟩).channels → i = j := by
    intro l
    induction l with
    | nil => intro _ i j hi; simp at hi
    | cons zc l ih =>
      intro hn i j hi hj
      rw [List.flatMap_cons, List.nodup_append] at hn
      have tail : ∀ k, ch ∈ (l.getD k ⟨[], .fade⟩).channels → ch ∈ l.flatMap ZoneCfg.channels := by
        intro k hk
        simp only [List.getD_eq_getElem?_getD] at hk
        cases hk' : l[k]? with
        | none => simp [hk'] at hk
        | some y =>
          simp only [hk', Option.getD_some] at hk
          exact List.mem_flatMap.2 ⟨y, List.mem_of_getElem? hk', hk⟩
      cases i <;> cases j
      · rfl
      · exact absurd rfl (hn.2.2 ch (by simpa using hi) ch (tail _ (by simpa using hj)))
      · exact absurd rfl (hn.2.2 ch (by simpa using hj) ch (tail _ (by simpa using hi)))
      · rename_i i j
        rw [ih hn.2.1 i j (by simpa using hi) (by simpa using hj)]
  exact key c.zones h.2.2.2.2.2.2.1 z y hz hy

/-- A zone that holds a channel exists. -/
theorem Config.lt_nz_of_mem {c : Config} {z ch : Nat} (h : ch ∈ (c.zoneCfg z).channels) : z < c.nz := by
  by_contra hz
  have hz : c.zones.length ≤ z := Nat.le_of_not_lt hz
  simp [Config.zoneCfg, List.getD_eq_getElem?_getD, hz] at h

theorem mem_ambientZones {c : Config} {z : Nat} : z ∈ ambientZones c ↔ z < c.nz ∧ (c.zoneCfg z).src = .fade := by
  simp [ambientZones]

theorem mem_boundZones {c : Config} {z g : Nat} : z ∈ boundZones c g ↔ z < c.nz ∧ (c.zoneCfg z).src = .gen g := by
  simp [boundZones]

theorem ambientZones_nodup (c : Config) : (ambientZones c).Nodup := List.nodup_range.filter _

/-! ## Loops over a register file -/

/-- A loop over an index list without repeats, each round of which replaces the entry at its index by a function of the
configuration and of that entry. -/
theorem foldl_indexed {α : Type} (get : State → Nat → α) (len : State → Nat) (f : Config → Nat → α → α)
    (G : State → Nat → State) (hc : ∀ t i, (G t i).cfg = t.cfg) (hl : ∀ t i, len (G t i) = len t)
    (hs : ∀ t i, i < len t → get (G t i) i = f t.cfg i (get t i))
    (ho : ∀ t i j, j ≠ i → get (G t i) j = get t j) (l : List Nat) (s : State) (hn : l.Nodup)
    (hlt : ∀ i ∈ l, i < len s) (j : Nat) :
    get (l.foldl G s) j = if j ∈ l then f s.cfg j (get s j) else get s j := by
  induction l generalizing s with
  | nil => simp
  | cons i l ih =>
    have hn' := List.nodup_cons.1 hn
    rw [List.foldl_cons, ih _ hn'.2 (fun k hk => by rw [hl]; exact hlt k (by simp [hk])), hc]
    by_cases hj : j = i
    · subst hj
      simp [hn'.1, hs s j (hlt j (by simp))]
    · simp [hj, ho s i j hj]

@[simp] theorem State.zones_length_setZone (s : State) (z : Nat) (r : Zone) :
    (s.setZone z r).zones.length = s.zones.length := by simp

@[simp] theorem State.gens_length_setGen (s : State) (g : Nat) (r : Gen) :
    (s.setGen g r).gens.length = s.gens.length := by simp

/-! ## The sizes of the register files -/

theorem State.zoneOn_length (s : State) (z : Nat) (d : Half) : (s.zoneOn z d).zones.length = s.zones.length := by
  simp [State.zoneOn]

theorem State.zoneOff_length (s : State) (z : Nat) (d : Half) : (s.zoneOff z d).zones.length = s.zones.length := by
  simp [State.zoneOff]

theorem State.genStart_length (s : State) (g : Nat) : (s.genStart g).gens.length = s.gens.length := by
  simp [State.genStart]

theorem State.genStop_length (s : State) (g : Nat) : (s.genStop g).gens.length = s.gens.length := by
  simp [State.genStop]

theorem State.genStep_gens (s : State) (g : Nat) :
    (s.genStep g).gens = s.gens.set g ((s.gen g).settle (s.genOutput g).1) :=
  foldl_keeps State.gens _ (fun t z => State.commit_gens t z _) _ _

theorem State.genStep_length (s : State) (g : Nat) : (s.genStep g).gens.length = s.gens.length := by
  simp [State.genStep_gens]

theorem State.zoneRun_zones (s : State) (z : Nat) :
    (s.zoneRun z).zones = s.zones.set z { s.zone z with cur := (s.zone z).level } := by
  simp only [State.zoneRun]; split <;> simp

theorem State.zoneRun_length (s : State) (z : Nat) : (s.zoneRun z).zones.length = s.zones.length := by
  simp [State.zoneRun_zones]

theorem State.ambientOn_length (s : State) : s.ambientOn.zones.length = s.zones.length :=
  foldl_keeps (fun t : State => t.zones.length) _ (fun t z => State.zoneOn_length t z _) _ _

theorem State.ambientOff_length (s : State) : s.ambientOff.zones.length = s.zones.length :=
  foldl_keeps (fun t : State => t.zones.length) _ (fun t z => State.zoneOff_length t z _) _ _

theorem State.startAll_length (s : State) : s.startAll.gens.length = s.gens.length :=
  foldl_keeps (fun t : State => t.gens.length) _ (fun t z => State.genStart_length t z) _ _

theorem State.stopAll_length (s : State) : s.stopAll.gens.length = s.gens.length :=
  foldl_keeps (fun t : State => t.gens.length) _ (fun t z => State.genStop_length t z) _ _

theorem State.runZones_length (s : State) : s.runZones.zones.length = s.zones.length :=
  foldl_keeps (fun t : State => t.zones.length) _ (fun t z => State.zoneRun_length t z) _ _

theorem State.stepGens_length (s : State) : s.stepGens.gens.length = s.gens.length :=
  foldl_keeps (fun t : State => t.gens.length) _ (fun t z => State.genStep_length t z) _ _

/-- ZONE_ON on every ambient zone (R182). -/
theorem State.ambientOn_zone (s : State) (h : s.shaped) (z : Nat) :
    s.ambientOn.zone z =
      if z ∈ ambientZones s.cfg then (s.zone z).retarget s.cfg.maxLevel s.cfg.fadeMs else s.zone z :=
  foldl_indexed State.zone (fun t => t.zones.length) (fun c _ r => r.retarget c.maxLevel c.fadeMs)
    (fun t z => t.zoneOn z t.cfg.fadeMs) (fun _ _ => rfl) (fun t i => State.zoneOn_length t i _)
    (fun t i hi => State.zone_setZone_same t i _ hi) (fun t i j hj => State.zone_setZone_other t i j _ hj)
    _ s (ambientZones_nodup _) (fun i hi => by rw [h.1]; exact (mem_ambientZones.1 hi).1) z

/-- ZONE_OFF on every ambient zone (R184). -/
theorem State.ambientOff_zone (s : State) (h : s.shaped) (z : Nat) :
    s.ambientOff.zone z =
      if z ∈ ambientZones s.cfg then (s.zone z).retarget 0 s.cfg.fadeMs else s.zone z :=
  foldl_indexed State.zone (fun t => t.zones.length) (fun c _ r => r.retarget 0 c.fadeMs)
    (fun t z => t.zoneOff z t.cfg.fadeMs) (fun _ _ => rfl) (fun t i => State.zoneOff_length t i _)
    (fun t i hi => State.zone_setZone_same t i _ hi) (fun t i j hj => State.zone_setZone_other t i j _ hj)
    _ s (ambientZones_nodup _) (fun i hi => by rw [h.1]; exact (mem_ambientZones.1 hi).1) z

/-- GEN_START on every generator (R182, R183). -/
theorem State.startAll_gen (s : State) (h : s.shaped) (g : Nat) :
    s.startAll.gen g = if g < s.cfg.ng then (s.gen g).start else s.gen g := by
  have := foldl_indexed State.gen (fun t => t.gens.length) (fun _ _ r => r.start) (fun t g => t.genStart g)
    (fun _ _ => rfl) (fun t i => by simp [State.genStart])
    (fun t i hi => State.gen_setGen_same t i _ hi) (fun t i j hj => State.gen_setGen_other t i j _ hj)
    (List.range s.cfg.ng) s List.nodup_range (fun i hi => by rw [h.2]; exact List.mem_range.1 hi) g
  simp only [List.mem_range] at this
  exact this

/-- GEN_STOP on every generator (R184). -/
theorem State.stopAll_gen (s : State) (h : s.shaped) (g : Nat) :
    s.stopAll.gen g = if g < s.cfg.ng then (s.gen g).stop s.cfg (s.cfg.genCfg g) else s.gen g := by
  have := foldl_indexed State.gen (fun t => t.gens.length) (fun c g r => r.stop c (c.genCfg g))
    (fun t g => t.genStop g)
    (fun _ _ => rfl) (fun t i => by simp [State.genStop])
    (fun t i hi => State.gen_setGen_same t i _ hi) (fun t i j hj => State.gen_setGen_other t i j _ hj)
    (List.range s.cfg.ng) s List.nodup_range (fun i hi => by rw [h.2]; exact List.mem_range.1 hi) g
  simp only [List.mem_range] at this
  exact this

/-! ## ZONE_RUN and GEN_STEP -/

theorem State.zoneRun_zone_same (s : State) (z : Nat) (h : z < s.zones.length) :
    (s.zoneRun z).zone z = { s.zone z with cur := (s.zone z).level } := by
  simp [State.zone, State.zoneRun_zones, List.getD_eq_getElem?_getD, h]

theorem State.zoneRun_zone_other (s : State) (z y : Nat) (h : y ≠ z) : (s.zoneRun z).zone y = s.zone y := by
  simp [State.zone, State.zoneRun_zones, List.getD_eq_getElem?_getD, h.symm]

theorem State.genStep_gen_same (s : State) (g : Nat) (h : g < s.gens.length) :
    (s.genStep g).gen g = (s.gen g).settle (s.genOutput g).1 := by
  simp [State.gen, State.genStep_gens, List.getD_eq_getElem?_getD, h]

theorem State.genStep_gen_other (s : State) (g y : Nat) (h : y ≠ g) : (s.genStep g).gen y = s.gen y := by
  simp [State.gen, State.genStep_gens, List.getD_eq_getElem?_getD, h.symm]

/-- FRAME after ZONE_RUN: an ambient zone's channels hold its level, clamped; every other channel is unchanged (R133). -/
theorem State.memRead_zoneRun (s : State) (z : Nat) (h : Memory.wf (unlisted s.cfg .frame) s.frame) (a : Nat) :
    (s.zoneRun z).memRead .frame a =
      if (s.cfg.zoneCfg z).src = .fade ∧ a ∈ (s.cfg.zoneCfg z).channels then clampB s.cfg (s.zone z).level
      else s.memRead .frame a := by
  simp only [State.zoneRun]
  split
  · rename_i hsrc
    rw [State.memRead_commit _ _ _ (by simpa using h)]
    simp only [hsrc, true_and, State.setZone_cfg]
    rfl
  · rename_i hsrc
    simp only [hsrc, reduceCtorEq, false_and, if_false]
    rfl

/-- A loop of commits of one value. -/
theorem State.memRead_foldl_commit (s : State) (b : Half) (l : List Nat)
    (h : Memory.wf (unlisted s.cfg .frame) s.frame) (a : Nat) :
    (l.foldl (fun t z => t.commit z b) s).memRead .frame a =
      if ∃ z ∈ l, a ∈ (s.cfg.zoneCfg z).channels then clampB s.cfg b else s.memRead .frame a := by
  induction l generalizing s with
  | nil => simp
  | cons z l ih =>
    have hw : Memory.wf (unlisted (s.commit z b).cfg .frame) (s.commit z b).frame := by
      rw [State.commit_cfg]
      exact foldl_invariant (fun t : State => Memory.wf (unlisted s.cfg .frame) t.frame ∧ t.cfg = s.cfg) _ _ _
        (fun t ch _ ht => ⟨by rw [State.memWrite_frame_frame, ht.2]; exact Memory.write_wf _ _ _ _ ht.1,
          by rw [State.memWrite_frame_cfg, ht.2]⟩) ⟨h, rfl⟩ |>.1
    rw [List.foldl_cons, ih _ hw, State.commit_cfg, State.memRead_commit s z b h]
    by_cases h1 : ∃ y ∈ l, a ∈ (s.cfg.zoneCfg y).channels
    · simp [h1]
    · by_cases h2 : a ∈ (s.cfg.zoneCfg z).channels <;> simp [h1, h2]

/-- FRAME after GEN_STEP: the channels of every bound zone hold the emitted brightness, clamped; every other channel is
unchanged (R106). -/
theorem State.memRead_genStep (s : State) (g : Nat) (h : Memory.wf (unlisted s.cfg .frame) s.frame) (a : Nat) :
    (s.genStep g).memRead .frame a =
      if ∃ z ∈ boundZones s.cfg g, a ∈ (s.cfg.zoneCfg z).channels then clampB s.cfg (s.genOutput g).1
      else s.memRead .frame a :=
  State.memRead_foldl_commit (s.setGen g ((s.gen g).settle (s.genOutput g).1)) _ _ h a

theorem State.zoneRun_spaceOk (s : State) (z : Nat) (sp : Space) (hc : s.cfg.wf) (h : s.spaceOk sp) :
    (s.zoneRun z).spaceOk sp := by
  simp only [State.zoneRun]
  split
  · exact State.commit_spaceOk _ _ _ _ (fun ch hch => Config.channels_lt hc hch) (by cases sp <;> exact h)
  · cases sp <;> exact h

theorem State.genStep_spaceOk (s : State) (g : Nat) (sp : Space) (hc : s.cfg.wf) (h : s.spaceOk sp) :
    (s.genStep g).spaceOk sp := by
  have := foldl_invariant (fun t : State => t.spaceOk sp ∧ t.cfg = s.cfg) (fun t z => t.commit z (s.genOutput g).1)
    (boundZones s.cfg g) (s.setGen g ((s.gen g).settle (s.genOutput g).1))
    (fun t z _ ht => ⟨State.commit_spaceOk _ _ _ _ (fun ch hch => by
      rw [ht.2] at hch ⊢; exact Config.channels_lt hc hch) ht.1, by rw [State.commit_cfg, ht.2]⟩)
    ⟨by cases sp <;> exact h, rfl⟩
  exact this.1

/-! ## The evaluation of a POLL (R214) -/

/-- Every zone's `cur` holds its level after the loop of ZONE_RUN. -/
theorem State.runZones_zone (s : State) (h : s.shaped) (z : Nat) :
    s.runZones.zone z = if z < s.cfg.nz then { s.zone z with cur := (s.zone z).level } else s.zone z := by
  have := foldl_indexed State.zone (fun t => t.zones.length) (fun _ _ r => { r with cur := r.level })
    (fun t z => t.zoneRun z) (fun t i => State.zoneRun_cfg t i) (fun t i => State.zoneRun_length t i)
    (fun t i hi => State.zoneRun_zone_same t i hi) (fun t i j hj => State.zoneRun_zone_other t i j hj)
    (List.range s.cfg.nz) s List.nodup_range (fun i hi => by rw [h.1]; exact List.mem_range.1 hi) z
  simp only [List.mem_range] at this
  exact this

/-- Every generator is stepped once. -/
theorem State.stepGens_gen (s : State) (h : s.shaped) (g : Nat) :
    s.stepGens.gen g = if g < s.cfg.ng then (s.gen g).settle (s.genOutput g).1 else s.gen g := by
  have := foldl_indexed State.gen (fun t => t.gens.length) (fun c g r => r.settle (r.output c (c.genCfg g)).1)
    (fun t g => t.genStep g) (fun t i => State.genStep_cfg t i) (fun t i => State.genStep_length t i)
    (fun t i hi => State.genStep_gen_same t i hi) (fun t i j hj => State.genStep_gen_other t i j hj)
    (List.range s.cfg.ng) s List.nodup_range (fun i hi => by rw [h.2]; exact List.mem_range.1 hi) g
  simp only [List.mem_range] at this
  exact this

theorem State.runZones_spaceOk (s : State) (sp : Space) (hc : s.cfg.wf) (h : s.spaceOk sp) : s.runZones.spaceOk sp :=
  (foldl_invariant (fun t : State => t.spaceOk sp ∧ t.cfg = s.cfg) _ _ _
    (fun t z _ ht => ⟨State.zoneRun_spaceOk t z sp (ht.2 ▸ hc) ht.1, by rw [State.zoneRun_cfg, ht.2]⟩) ⟨h, rfl⟩).1

theorem State.stepGens_spaceOk (s : State) (sp : Space) (hc : s.cfg.wf) (h : s.spaceOk sp) : s.stepGens.spaceOk sp :=
  (foldl_invariant (fun t : State => t.spaceOk sp ∧ t.cfg = s.cfg) _ _ _
    (fun t z _ ht => ⟨State.genStep_spaceOk t z sp (ht.2 ▸ hc) ht.1, by rw [State.genStep_cfg, ht.2]⟩) ⟨h, rfl⟩).1

end Sys2Proof.Machine
end

