-- ==== Sys2Proof/Laws/PerInstr.lean ====
section
/-! SUPPORT. Laws/PerInstr.lean: the word of every operation agrees with its row of spec/opcode_table.json: under the
row's mask it is the row's match (R83), one lemma for each constructor. -/

namespace Sys2Proof.Laws

/-- Under the mask of its row the word of an operation is the match of its row. -/
def TableMatch.Statement (i : Instr) : Prop := encode i &&& i.maskWord = i.matchWord

/-- The masks of R83 in fields: all bits, all but `level`, all but `idx`, the opcode alone. -/
theorem mask_fields :
    (0xFFFFFFFF : Word) = fieldsWord 0xFF 0xFF 0xFFFF ∧ (0xFFFFFFFE : Word) = fieldsWord 0xFF 0xFF 0xFFFE ∧
    (0xFF00FFFF : Word) = fieldsWord 0xFF 0 0xFFFF ∧ (0xFF000000 : Word) = fieldsWord 0xFF 0 0 := by decide

/-- A mask of all ones keeps an opcode. -/
theorem byte_masked (op : BitVec 8) : op &&& 0xFF = op := BitVec.and_allOnes

/-- Under a mask that covers the opcode and the immediate, the word of an indexed operation keeps its opcode alone. -/
theorem index_masked (op idx : BitVec 8) : fieldsWord op idx 0 &&& (0xFF00FFFF : Word) = fieldsWord op 0 0 := by
  rw [mask_fields.2.2.1, fieldsWord_and, byte_masked]
  simp

/-- Under a mask that covers the opcode, the word of a zone fade keeps its opcode alone. -/
theorem opcode_masked (op idx : BitVec 8) (imm : Half) :
    fieldsWord op idx imm &&& (0xFF000000 : Word) = fieldsWord op 0 0 := by
  rw [mask_fields.2.2.2, fieldsWord_and, byte_masked]
  simp

theorem TableMatch.tick : TableMatch.Statement .tick := by
  unfold TableMatch.Statement; decide

theorem TableMatch.refresh : TableMatch.Statement .refresh := by
  unfold TableMatch.Statement; decide

theorem TableMatch.motionEdge : TableMatch.Statement .motionEdge := by
  unfold TableMatch.Statement; decide

theorem TableMatch.buttonEdge (level : Bool) : TableMatch.Statement (.buttonEdge level) := by
  cases level <;> (unfold TableMatch.Statement; decide)

theorem TableMatch.poll : TableMatch.Statement .poll := by
  unfold TableMatch.Statement; decide

theorem TableMatch.reset : TableMatch.Statement .reset := by
  unfold TableMatch.Statement; decide

theorem TableMatch.status : TableMatch.Statement .status := by
  unfold TableMatch.Statement; decide

theorem TableMatch.genStart (idx : BitVec 8) : TableMatch.Statement (.genStart idx) :=
  index_masked 0x10 idx

theorem TableMatch.genStop (idx : BitVec 8) : TableMatch.Statement (.genStop idx) :=
  index_masked 0x11 idx

theorem TableMatch.genIsrun (idx : BitVec 8) : TableMatch.Statement (.genIsrun idx) :=
  index_masked 0x12 idx

theorem TableMatch.genStep (idx : BitVec 8) : TableMatch.Statement (.genStep idx) :=
  index_masked 0x13 idx

theorem TableMatch.zoneOn (idx : BitVec 8) (imm : Half) : TableMatch.Statement (.zoneOn idx imm) :=
  opcode_masked 0x20 idx imm

theorem TableMatch.zoneOff (idx : BitVec 8) (imm : Half) : TableMatch.Statement (.zoneOff idx imm) :=
  opcode_masked 0x21 idx imm

theorem TableMatch.zoneRun (idx : BitVec 8) : TableMatch.Statement (.zoneRun idx) :=
  index_masked 0x22 idx

theorem TableMatch.motionTick : TableMatch.Statement .motionTick := by
  unfold TableMatch.Statement; decide

theorem TableMatch.btnConsume : TableMatch.Statement .btnConsume := by
  unfold TableMatch.Statement; decide

theorem TableMatch.schedStep : TableMatch.Statement .schedStep := by
  unfold TableMatch.Statement; decide

end Sys2Proof.Laws
end

