-- ==== Sys2Proof/Tests/Slice0.lean ====
section
/-! SUPPORT. Tests/Slice0.lean: what the checks of WellFormed refuse, words written out from 30_encoding.md, at most two
one-step tests for each operation with the values of the spec's worked examples, and for every obligation with
hypotheses a state and operands that meet them together (test_witness_…).

Expected values come from the examples of the rules named in each comment and from 95_test_vectors.md, all under
CFG-T. -/

namespace Sys2Proof.Tests

open Sys2Proof Sys2Proof.Machine

/-! ## WellFormed: one ill-formed configuration or operation for each check -/

/-- CFG-T with its zones replaced. -/
def withZones (zs : List ZoneCfg) : Config := { Config.cfgT with zones := zs }

/-- CFG-T with its generators replaced, and no zone bound to one. -/
def withGens (gs : List GenCfg) : Config := { Config.cfgT with zones := [], gens := gs }

theorem test_wf_cfgT : Config.cfgT.wf := by decide
theorem test_wf_refuses_no_channel : ¬(Config.wf { withZones [] with n := 0, dcFull := [], dcHalf := [] }) := by decide
theorem test_wf_refuses_257_channels : ¬(Config.wf { Config.cfgT with n := 257 }) := by decide
theorem test_wf_refuses_max_0 : ¬(Config.wf { Config.cfgT with maxLevel := 0 }) := by decide
theorem test_wf_refuses_short_above_long : ¬(Config.wf { Config.cfgT with shortMs := 1001 }) := by decide
theorem test_wf_refuses_257_zones : ¬(withZones (List.replicate 257 ⟨[], .fade⟩)).wf := by
  intro h
  have h : (List.replicate 257 (⟨[], .fade⟩ : ZoneCfg)).length ≤ 256 := h.2.2.2.1
  rw [List.length_replicate] at h
  omega
theorem test_wf_refuses_257_generators : ¬(withGens (List.replicate 257 ⟨.pulse, 2, false⟩)).wf := by
  intro h
  have h : (List.replicate 257 (⟨.pulse, 2, false⟩ : GenCfg)).length ≤ 256 := h.2.2.2.2.1
  rw [List.length_replicate] at h
  omega
theorem test_wf_refuses_channel_beyond_n : ¬(withZones [⟨[8], .fade⟩]).wf := by decide
theorem test_wf_refuses_channel_twice_in_a_zone : ¬(withZones [⟨[1, 1], .fade⟩]).wf := by decide
theorem test_wf_refuses_channel_in_two_zones : ¬(withZones [⟨[1], .fade⟩, ⟨[2, 1], .fade⟩]).wf := by decide
theorem test_wf_refuses_absent_generator : ¬(withZones [⟨[1], .gen 3⟩]).wf := by decide
theorem test_wf_refuses_pulse_period_1 : ¬(withGens [⟨.pulse, 1, false⟩]).wf := by decide
theorem test_wf_refuses_indicator_period_0 : ¬(withGens [⟨.indicator 0 0 0, 0, false⟩]).wf := by decide
theorem test_wf_refuses_indicator_on_beyond_period : ¬(withGens [⟨.indicator 11 0 1, 10, false⟩]).wf := by decide
theorem test_wf_refuses_indicator_min_above_max : ¬(withGens [⟨.indicator 5 2 1, 10, false⟩]).wf := by decide
theorem test_wf_refuses_double_without_rest : ¬(withGens [⟨.double 3 4 3 0 1, 10, false⟩]).wf := by decide
theorem test_wf_refuses_double_min_above_max : ¬(withGens [⟨.double 3 3 3 2 1, 10, false⟩]).wf := by decide
theorem test_wf_refuses_short_dc_full : ¬(Config.wf { Config.cfgT with dcFull := [63] }) := by decide
theorem test_wf_refuses_dc_full_above_max : ¬(Config.wf { Config.cfgT with dcFull := List.replicate 8 64 }) := by decide
theorem test_wf_refuses_short_dc_half : ¬(Config.wf { Config.cfgT with dcHalf := [31] }) := by decide
theorem test_wf_refuses_dc_half_above_max : ¬(Config.wf { Config.cfgT with dcHalf := List.replicate 8 64 }) := by decide

/-- Every indexed operation with the least index out of range (`NZ = 4`, `NG = 3`). -/
theorem test_wf_refuses_index_out_of_range :
    [Instr.genStart 3, .genStop 3, .genIsrun 3, .genStep 3, .zoneOn 4 0, .zoneOff 4 0, .zoneRun 4].all
      (fun i => !i.wf 4 3) = true := by decide

/-! ## Decoding: the words of 95_test_vectors.md 2.1, every operation of R83 -/

/-- The decoder under `NZ = 4` and `NG = 3` gives exactly `i`. -/
def decodesTo (w : Word) (i : Instr) : Bool :=
  match decode 4 3 w with
  | .ok j => i == j
  | .error _ => false

/-- The decoder under `NZ = 4` and `NG = 3` refuses for exactly the reason `r`. -/
def refusedFor (w : Word) (r : DecodeRefusal) : Bool :=
  match decode 4 3 w with
  | .ok _ => false
  | .error q => r == q

theorem test_decode_events :
    (decodesTo 0x01000000 .tick && decodesTo 0x02000000 .refresh && decodesTo 0x03000000 .motionEdge &&
      decodesTo 0x04000000 (.buttonEdge false) && decodesTo 0x04000001 (.buttonEdge true) &&
      decodesTo 0x05000000 .poll && decodesTo 0x06000000 .reset && decodesTo 0x07000000 .status) = true := by decide
theorem test_decode_generators :
    (decodesTo 0x10020000 (.genStart 2) && decodesTo 0x11000000 (.genStop 0) && decodesTo 0x12010000 (.genIsrun 1) &&
      decodesTo 0x13020000 (.genStep 2)) = true := by decide
theorem test_decode_zones :
    (decodesTo 0x200001F4 (.zoneOn 0 500) && decodesTo 0x2001FFFF (.zoneOn 1 65535) &&
      decodesTo 0x210001F4 (.zoneOff 0 500) && decodesTo 0x21030000 (.zoneOff 3 0) &&
      decodesTo 0x22000000 (.zoneRun 0)) = true := by decide
theorem test_decode_main_loop :
    (decodesTo 0x30000000 .motionTick && decodesTo 0x40000000 .btnConsume && decodesTo 0x50000000 .schedStep) =
      true := by decide
theorem test_decode_refusals :
    (refusedFor 0x00000000 .badOpcode && refusedFor 0xFFFFFFFF .badOpcode && refusedFor 0x08000000 .badOpcode &&
      refusedFor 0x01000001 .reservedField && refusedFor 0x04000002 .reservedField &&
      refusedFor 0x13020001 .reservedField && refusedFor 0x10030000 .badIndex && refusedFor 0x20040000 .badIndex) =
      true := by decide
/-- R65: the least significant byte of a word is transported first. -/
theorem test_decode_bytes : (decodeBytes 4 3 [0xF4, 0x01, 0x00, 0x20, 0x05]).toOption = some (.zoneOn 0 500, [0x05]) := by
  decide
theorem test_decode_truncated_bytes : (decodeBytes 4 3 [0x00, 0x00, 0x00]).toOption = none := by decide
/-- R86. -/
theorem test_text : (Instr.zoneOn 0 500).text = "ZONE_ON 0, 500" := by decide

/-! ## One step -/

/-- The outcome is a next state, and it has the property. -/
def answers (o : Host.Outcome State Fault Refusal) (p : State → Bool) : Bool :=
  match o with
  | .next t => p t
  | .fault _ => false
  | .refused _ => false

theorem next_of_answers {o : Host.Outcome State Fault Refusal} {p : State → Bool} (h : answers o p = true) :
    ∃ t, o = .next t ∧ p t = true := by
  match o, h with
  | .next t, h => exact ⟨t, rfl, h⟩

/-- After RESET, with a register of generator 0, 1 or 2 set. -/
def genAt (g : Nat) (r : Gen) : State := State.reset.setGen g r

/-- After RESET, with zone 0's registers set. -/
def zoneAt (r : Zone) : State := State.reset.setZone 0 r

/-- R210's example. -/
theorem test_tick_moves_counters :
    answers (exec .tick { (genAt 0 ⟨.running, 999, 0, 0⟩).setZone 0 ⟨0, 0, 63, 500, 499⟩ with motionTimer := 1 })
      (fun t => t.motionTimer == 0 && t.shortTimer == 0 && (t.zone 0).elapsed == 500 && (t.gen 0).acc == 0 &&
        t.now == 1) = true := by decide
/-- R21, R27, R210: `now` wraps, the stop-fade count saturates, and a tick wakes. -/
theorem test_tick_wraps_and_saturates :
    answers (exec .tick { genAt 0 ⟨.stopping, 65535, 0, 1⟩ with now := 0xFFFFFFFF, asleep := true })
      (fun t => t.now == 0 && (t.gen 0).acc == 65535 && !t.asleep) = true := by decide
/-- R211's example, its last four channels. -/
theorem test_refresh_sends_the_frame :
    answers (exec .refresh { State.reset with frame := [(4, 50), (6, 63), (7, 63)] })
      (fun t => t.frameOut == [0, 0, 0, 0, 50, 0, 63, 63] && t.frameValid) = true := by decide
/-- R150's example. -/
theorem test_motion_edge : answers (exec .motionEdge State.reset) (fun t => t.inMotion && t.motionTimer == 10000) = true := by
  decide
/-- R150, E4: under lock-out an edge only wakes. -/
theorem test_motion_edge_locked_out :
    answers (exec .motionEdge { State.reset with lockout := true, asleep := true })
      (fun t => !t.inMotion && t.motionTimer == 0 && !t.asleep) = true := by decide
/-- R160's example, the press. -/
theorem test_button_press :
    answers (exec (.buttonEdge false) State.reset)
      (fun t => t.depressed && t.shortTimer == 50 && t.longTimer == 1000 && !t.lastLevel) = true := by decide
/-- R160's example, the release after 200 TICKs. -/
theorem test_button_release :
    answers (exec (.buttonEdge true) { State.reset with depressed := true, lastLevel := false, longTimer := 800 })
      (fun t => t.pressClass == .short && !t.depressed && t.lastLevel) = true := by decide
/-- R214's example: from reset `MOTION_EDGE; POLL`. -/
theorem test_poll_starts_the_fade_in :
    answers (exec .poll { State.reset with inMotion := true, motionTimer := 10000 })
      (fun t => t.statusWord == 0x221 && t.fadeInTimer == 500 && t.frame == []) = true := by decide
/-- R265: the first POLL after RESET asks to sleep. -/
theorem test_poll_after_reset : answers (exec .poll State.reset) (fun t => t.statusWord == 0x210) = true := by decide
/-- R45, R216: RESET presents DC_FULL and keeps the configuration. -/
theorem test_reset :
    answers (exec .reset { State.reset with now := 7, sched := .steadyOn, halfBrightness := true, dc := [(2, 31)] })
      (fun t => t = State.reset) = true := by decide
/-- R217's example. -/
theorem test_status :
    answers (exec .status { State.reset with inMotion := true, sched := .steadyOn, halfBrightness := true })
      (fun t => t.result == 0x245) = true := by decide
/-- R103's example. -/
theorem test_gen_start : answers (exec (.genStart 2) State.reset) (fun t => t.gen 2 = ⟨.running, 0, 0, 0⟩) = true := by decide
/-- R104's example. -/
theorem test_gen_stop_fades :
    answers (exec (.genStop 0) (genAt 0 ⟨.running, 250, 0, 0⟩)) (fun t => t.gen 0 = ⟨.stopping, 0, 0, 31⟩) = true := by decide
/-- R104: an Indicator stops at once. -/
theorem test_gen_stop_indicator :
    answers (exec (.genStop 1) (genAt 1 ⟨.running, 250, 63, 0⟩)) (fun t => t.gen 1 = ⟨.stopped, 0, 63, 0⟩) = true := by decide
/-- R105: a Pulse in its stop-fade is not running. -/
theorem test_gen_isrun :
    (answers (exec (.genIsrun 1) (genAt 1 ⟨.running, 9, 0, 0⟩)) (fun t => t.result == 1) &&
      answers (exec (.genIsrun 0) (genAt 0 ⟨.stopping, 9, 0, 5⟩)) (fun t => t.result == 0)) = true := by decide
/-- R106's example: the brightness is reported unclamped and committed clamped. -/
theorem test_gen_step_double :
    answers (exec (.genStep 2) (genAt 2 ⟨.running, 600, 0, 0⟩))
      (fun t => t.result == 0x00010064 && t.memRead .frame 6 == 63 && t.memRead .frame 7 == 63 &&
        (t.gen 2).last == 100) = true := by decide
/-- R110's example: a stop-fade from 31 settles at 247 TICKs and not at 246. -/
theorem test_gen_step_stop_fade :
    (answers (exec (.genStep 0) (genAt 0 ⟨.stopping, 246, 0, 31⟩)) (fun t => t.result == 1 && (t.gen 0).mode == .stopping) &&
      answers (exec (.genStep 0) (genAt 0 ⟨.stopping, 247, 0, 31⟩)) (fun t => t.gen 0 = ⟨.stopped, 0, 0, 31⟩)) = true := by
  decide
/-- R131's example. -/
theorem test_zone_on : answers (exec (.zoneOn 0 500) State.reset) (fun t => t.zone 0 = ⟨0, 0, 63, 500, 0⟩) = true := by decide
/-- R132's example: the fade reverses from 31. -/
theorem test_zone_off :
    answers (exec (.zoneOff 0 500) (zoneAt ⟨0, 0, 63, 500, 250⟩)) (fun t => t.zone 0 = ⟨31, 31, 0, 500, 0⟩) = true := by decide
/-- E7: `off()` on a zone settled at 0 changes nothing, not even `dur`. -/
theorem test_zone_off_settled :
    answers (exec (.zoneOff 0 123) (zoneAt ⟨0, 31, 0, 500, 500⟩)) (fun t => t.zone 0 = ⟨0, 31, 0, 500, 500⟩) = true := by decide
/-- R133's example. -/
theorem test_zone_run :
    answers (exec (.zoneRun 0) (zoneAt ⟨31, 31, 0, 500, 250⟩))
      (fun t => t.result == 16 && t.frame == [(0, 16), (1, 16), (2, 16), (3, 16)]) = true := by decide
/-- R151's example: at 0 the flag is cleared, at 1 it is kept. -/
theorem test_motion_tick :
    (answers (exec .motionTick { State.reset with inMotion := true }) (fun t => !t.inMotion) &&
      answers (exec .motionTick { State.reset with inMotion := true, motionTimer := 1 }) (fun t => t.inMotion)) = true := by
  decide
/-- R163's example. -/
theorem test_btn_consume_short :
    answers (exec .btnConsume { State.reset with pressClass := .short, dcWrite := false })
      (fun t => t.pressClass == .none && t.halfBrightness && t.dcOut == List.replicate 8 31 && t.dcWrite) = true := by decide
/-- R165, E4: a Long press forces motion off and sets the lock-out. -/
theorem test_btn_consume_long :
    answers (exec .btnConsume { State.reset with pressClass := .long, inMotion := true, motionTimer := 5 })
      (fun t => t.pressClass == .none && !t.inMotion && t.motionTimer == 0 && t.lockout) = true := by decide
/-- R181's example. -/
theorem test_sched_step_motion_begins :
    answers (exec .schedStep { State.reset with inMotion := true, motionTimer := 10000 })
      (fun t => t.sched == .fadingIn && t.fadeInTimer == 500 && t.zone 0 = ⟨0, 0, 63, 500, 0⟩ && t.gen 0 = Gen.zero &&
        !t.asleep) = true := by decide
/-- R184: the end of motion is tested before the end of the fade-in. -/
theorem test_sched_step_motion_ends_first :
    answers (exec .schedStep { State.reset with sched := .fadingIn, fadeInTimer := 0 })
      (fun t => t.sched == .fadingOut && t.fadeOutTimer == 500) = true := by decide
/-- R231: a refused word drives `result` 0, pulses `cmd_err`, and leaves the sleep. -/
theorem test_step_refused_word :
    answers (step { State.reset with cmd := [0x10030000], result := 9, asleep := true })
      (fun t => t.result == 0 && t.cmdErr && t.asleep && t.cmd == []) = true := by decide
/-- The word placed by `withFetchWord` is the next one performed. -/
theorem test_step_fetch :
    answers (step (State.reset.withFetchWord 32 0x10020000)) (fun t => t.gen 2 = ⟨.running, 0, 0, 0⟩) = true := by decide

/-! ## The duties of the environment (R246, R247) -/

/-- A run that meets every duty: reset, a millisecond with its TICK and POLL, a press and a motion edge as their pins
had them. -/
def dutiful : List Occurrence :=
  [.performed .reset, .millisecond, .performed .tick, .performed .poll, .buttonInterrupt false,
    .performed (.buttonEdge false), .motionInterrupt, .performed .motionEdge, .performed .poll]

theorem test_duties_met : dutiesMet dutiful State.reset = true := by decide
/-- (i): never more than one TICK for a millisecond. -/
theorem test_duty_tick_never_more :
    ticksKeepTime false false [.millisecond, .performed .tick, .performed .tick] State.reset = false := by decide
/-- (i): never fewer while awake; asleep a millisecond may pass without its TICK. -/
theorem test_duty_tick_never_fewer_while_awake :
    (ticksKeepTime false false [.millisecond, .millisecond, .performed .tick] State.reset = false) ∧
      ticksKeepTime false false [.performed .poll, .millisecond, .millisecond, .performed .tick] State.reset = true := by
  decide
/-- (ii): two TICKs while awake need a POLL between them. -/
theorem test_duty_poll_between_ticks :
    pollsKeepUp false [.tick, .status, .tick] State.reset = false ∧
      pollsKeepUp false [.tick, .poll, .tick] State.reset = true := by decide
/-- (ii): two TICKs with a sleep between them do not. -/
theorem test_duty_poll_not_owed_asleep : pollsKeepUp false [.tick, .schedStep, .tick] State.reset = true := by decide
/-- (iii): the level is the one the handler read, each interrupt has its operation, and no operation is without one. -/
theorem test_duty_edges :
    edgesFollowPins 0 [] [.buttonInterrupt true, .performed (.buttonEdge false)] = false ∧
      edgesFollowPins 0 [] [.motionInterrupt, .motionInterrupt, .performed .motionEdge] = false ∧
      edgesFollowPins 0 [] [.performed .motionEdge] = false ∧
      edgesFollowPins 0 [] [.motionInterrupt, .buttonInterrupt true, .performed (.buttonEdge true),
        .performed .motionEdge] = true := by decide
/-- (iv). -/
theorem test_duty_reset_first : startsWithReset [.tick, .reset] = false := by decide
/-- R247: a reset block asks to sleep; its collaborator presents one more REFRESH and the POLL behind it, then sleeps. -/
theorem test_duty_sleep_frame_sent :
    sleepsWithFrameSent .unknown [.performed .poll, .performed .refresh, .performed .poll, .lowPower] State.reset =
      true := by decide
/-- R247: not awake, not with nothing ever sent, and not after a POLL that did work since the last REFRESH. -/
theorem test_duty_sleep_refused :
    sleepsWithFrameSent .unknown [.performed .refresh, .lowPower] State.reset = false ∧
      sleepsWithFrameSent .unknown [.performed .poll, .lowPower] State.reset = false ∧
      sleepsWithFrameSent .unknown [.performed .refresh, .performed .tick, .performed .poll, .lowPower] State.reset =
        false := by decide
/-- R45, R247: RESET sends nothing, so the sink still holds the lit frame that the REFRESH before it sent. -/
theorem test_duty_reset_sends_nothing :
    sleepsWithFrameSent .unknown [.performed .refresh, .performed .reset, .performed .poll, .lowPower]
      { State.reset with frame := [(0, 63)] } = false := by decide

/-- The premises of `expiry_acted_on_before_next_tick` hold together, at a hold time of 1 ms that has run out. -/
theorem test_witness_expiry_acted_on_before_next_tick :
    let c : Config := { Config.cfgT with holdMs := 1 }
    c.holdMs ≠ 0 ∧ pollsKeepUp false [.motionEdge, .tick, .poll, .tick] (State.resetOf c []) = true ∧
      answers (execList [.motionEdge, .tick, .poll] (State.resetOf c [])) (fun t => t.motionTimer == 0) = true := by decide

/-! ## Witnesses of the obligations' hypotheses -/

/-- CFG-T with thresholds and times of a few ms, so that a boundary is a few TICKs away. -/
def small : Config := { Config.cfgT with holdMs := 2, shortMs := 1, longMs := 2, fadeMs := 2 }

/-- After RESET under `small`. -/
def smallReset : State := State.resetOf small []

/-- A state in the middle of things: lit, a generator of each mode, half brightness, a pending Short press, a held
button, a lit frame. -/
def busy : State :=
  { (((State.reset.setZone 0 ⟨31, 63, 0, 500, 250⟩).setGen 0 ⟨.stopping, 3, 31, 31⟩).setGen 1 ⟨.running, 999, 0, 0⟩) with
    sched := .fadingOut, fadeOutTimer := 250, lastLevel := false, depressed := true, pressClass := .short,
    halfBrightness := true, lockout := true, frame := [(0, 31), (5, 63)],
    dc := (List.range 8).map fun ch => (ch, 31) }

theorem test_witness_busy_shape :
    busy.cfg.wf ∧ busy.shaped ∧ busy.spaceOk .frame ∧ busy.spaceOk .dc ∧ busy.asleep = false := by decide

theorem test_witness_busy_inv : busy.Inv where
  shape := by decide
  frameForm := by decide
  dcForm := by decide
  button := by decide
  zones := by decide
  gens := by decide
  frame := by decide
  dc := by decide
  press := by decide
  lock := by decide

theorem test_witness_DecodeReadsBackEncode :
    (Instr.zoneOn 3 65535).wf 4 3 = true ∧ (Instr.genStep 2).wf 4 3 = true ∧ (Instr.buttonEdge true).wf 0 0 = true := by
  decide
theorem test_witness_EncodeReadsBackDecode : decode 4 3 0x2003FFFF = .ok (.zoneOn 3 65535) := by rfl
/-- The clauses of the refusal, at the words where they meet: index 2 is in range and index 3 is not; a reserved bit
comes before the index. -/
theorem test_witness_RefusalReasonsInOrder :
    (refusedFor 0x51000000 .badOpcode && refusedFor 0x50000001 .reservedField && decodesTo 0x50000000 .schedStep &&
      refusedFor 0x13030001 .reservedField && refusedFor 0x13030000 .badIndex && decodesTo 0x13020000 (.genStep 2) &&
      refusedFor 0x2104FFFF .badIndex && decodesTo 0x2103FFFF (.zoneOff 3 65535) && refusedFor 0x22040000 .badIndex &&
      refusedFor 0x04010000 .reservedField) = true := by decide
theorem test_witness_StepPerformsTheDecodedOperation :
    { busy with cmd := [0x13020000, 5] : State }.cfg.wf ∧ { busy with cmd := [0x13020000, 5] : State }.cmd = [0x13020000, 5] ∧
      decode busy.cfg.nz busy.cfg.ng 0x13020000 = .ok (.genStep 2) := ⟨by decide, rfl, rfl⟩
theorem test_witness_RefusedWordChangesOnlyItsPorts :
    { busy with cmd := [0x13030000] : State }.cfg.wf ∧ decode busy.cfg.nz busy.cfg.ng 0x13030000 = .error .badIndex :=
  ⟨by decide, rfl⟩
theorem test_witness_IllFormedConfigurationIsRefused : ¬{ busy with cfg := withGens [⟨.pulse, 1, false⟩] : State }.cfg.wf := by
  decide
theorem test_witness_StepWithoutWordKeepsEverything : busy.cfg.wf ∧ busy.cmd = [] := by decide
theorem test_witness_EncodedStreamRunsAsItsOperations :
    busy.cfg.wf ∧ (∀ i ∈ [Instr.motionEdge, .zoneOn 3 5, .poll], i.wf busy.cfg.nz busy.cfg.ng = true) ∧
      { busy with cmd := [0x03000000, 0x20030005, 0x05000000, 7] : State }.cmd =
        [Instr.motionEdge, .zoneOn 3 5, .poll].map encode ++ [7] := by decide
theorem test_witness_OutOfRangeIndexIsRefused :
    busy.cfg.ng ≤ (3 : BitVec 8).toNat ∧ busy.cfg.nz ≤ (4 : BitVec 8).toNat ∧ busy.cfg.nz ≤ (255 : BitVec 8).toNat := by decide
/-- A next state with the invariant's premises before it. -/
theorem test_witness_StepKeepsInvariant :
    busy.cfg.wf ∧ busy.Inv ∧ ∃ t, step { busy with cmd := [0x05000000] } = .next t ∧ (t.gen 0).mode = .stopping :=
  ⟨by decide, test_witness_busy_inv, by
    obtain ⟨t, h, ht⟩ := next_of_answers (o := step { busy with cmd := [0x05000000] })
      (p := fun t => (t.gen 0).mode = .stopping) (by decide)
    exact ⟨t, h, by simpa using ht⟩⟩
theorem test_witness_InvariantHoldsAfterReset : small.wf := by decide
theorem test_witness_FreshResetAsksToSleep : small.wf ∧ State.reset.cfg = Config.cfgT := by decide
theorem test_witness_PollWhileAsleepDoesNothing : { busy with asleep := true : State }.asleep = true := by decide
theorem test_witness_MotionEdgeRestartsTheHoldTime : smallReset.lockout = false ∧ busy.lockout = true := by decide
/-- One TICK short of the hold time, and exactly the hold time, other operations between. -/
theorem test_witness_MonostableLaw :
    smallReset.lockout = false ∧ ∃ e, exec .motionEdge smallReset = .next e ∧
      runAvoids endsHold [.tick, .poll] e = true ∧ runAvoids endsHold [.tick, .poll, .buttonEdge false, .tick] e = true := by
  refine ⟨rfl, ?_⟩
  obtain ⟨e, h, he⟩ := next_of_answers (o := exec .motionEdge smallReset)
    (p := fun e => runAvoids endsHold [.tick, .poll] e && runAvoids endsHold [.tick, .poll, .buttonEdge false, .tick] e)
    (by decide)
  exact ⟨e, h, by simpa using he⟩
theorem test_witness_MotionTickAndEdgeEndInOneState : smallReset.lockout = false ∧ smallReset.cfg.holdMs ≠ 0 := by decide
theorem test_witness_LockoutSuppressesMotionUntilLongPress :
    busy.lockout = true ∧ busy.inMotion = false ∧
      runAvoids (fun i u => consumesLong i u || i == .reset) [.motionEdge, .poll, .motionEdge, .tick] busy = true := by decide
/-- The four cases of a button edge: the level seen before; a press; the release of a pressed button, Long at 0; the
release of an unpressed one (only in states no run reaches). -/
theorem test_witness_ButtonEdgeClassifiesARelease :
    (true = State.reset.lastLevel) ∧ (false ≠ State.reset.lastLevel ∧ false = State.reset.cfg.closed) ∧
      (true ≠ busy.lastLevel ∧ true ≠ busy.cfg.closed ∧ busy.depressed = true ∧ busy.longTimer.toNat = 0) ∧
      (true ≠ { State.reset with lastLevel := false : State }.lastLevel ∧ true ≠ State.reset.cfg.closed ∧
        State.reset.depressed = false) := by decide
/-- The press classes at their boundaries under thresholds 1 and 2: no TICK, one, two. -/
theorem test_witness_PressClassFollowsItsDuration :
    smallReset.lastLevel = (!smallReset.cfg.closed) ∧
      (∀ ops ∈ [[Instr.poll], [.tick, .poll], [.tick, .poll, .tick, .motionEdge]],
        ∀ i ∈ ops, i ≠ .reset ∧ i ≠ .buttonEdge true ∧ i ≠ .buttonEdge false) ∧
      smallReset.cfg.shortMs.toNat = [Instr.tick, .poll].count .tick ∧
      smallReset.cfg.longMs.toNat = [Instr.tick, .poll, .tick, .motionEdge].count .tick := by decide
theorem test_witness_ConsumeNoneOrLong :
    State.reset.pressClass = .none ∧ { busy with pressClass := .three : State }.pressClass = .three ∧
      { busy with pressClass := .long : State }.pressClass = .long := by decide
theorem test_witness_ConsumeShortRewritesDotCorrection : busy.pressClass = .short ∧ busy.spaceOk .dc := by decide
/-- The Pulse of CFG-T, and the least period a Pulse can have. -/
theorem test_witness_PulseIsATriangle :
    (Config.cfgT.genCfg 0).kind = .pulse ∧ (Config.cfgT.genCfg 0).wf = true ∧ 1 ≤ Config.cfgT.maxLevel.toNat ∧
      (⟨.pulse, 2, false⟩ : GenCfg).wf = true := by decide
theorem test_witness_IndicatorIsOnFirst :
    (Config.cfgT.genCfg 1).kind = .indicator 500 0 63 ∧ (Config.cfgT.genCfg 1).wf = true := by decide
theorem test_witness_DoubleIndicatorIsOnInTwoIntervals :
    (Config.cfgT.genCfg 2).kind = .double 100 200 100 0 100 ∧ (Config.cfgT.genCfg 2).wf = true := by decide
theorem test_witness_GenStartRestartsThePhase : busy.shaped ∧ (2 : BitVec 8).toNat < busy.cfg.ng := by decide
/-- A Pulse caught at 31, a Pulse caught at 0, an Indicator. -/
theorem test_witness_GenStopStopsOrFades :
    busy.cfg.wf ∧ (genAt 0 ⟨.running, 250, 0, 0⟩).shaped ∧ (0 : BitVec 8).toNat < State.reset.cfg.ng ∧
      ((genAt 0 ⟨.running, 250, 0, 0⟩).gen 0).mode = .running ∧ pulseLevel 63 1000 250 = 31 ∧
      ((genAt 0 ⟨.running, 0, 0, 0⟩).gen 0).mode = .running ∧ pulseLevel 63 1000 0 = 0 ∧ (busy.gen 1).mode = .running := by decide
theorem test_witness_GenStopIsIdempotent : (0 : BitVec 8).toNat < busy.cfg.ng ∧ (busy.gen 0).mode ≠ .running := by decide
/-- A generator in each of the four modes. -/
theorem test_witness_GenStepEmitsAndCommits :
    busy.shaped ∧ busy.spaceOk .frame ∧ (2 : BitVec 8).toNat < busy.cfg.ng ∧ (busy.gen 0).mode = .stopping ∧
      (busy.gen 1).mode = .running ∧ (busy.gen 2).mode = .stopped ∧
      (((genAt 2 ⟨.three, 1, 1, 1⟩).gen 2).mode = .three ∧ (genAt 2 ⟨.three, 1, 1, 1⟩).shaped) := by decide
theorem test_witness_StopFadeLastsItsDuration :
    (genAt 0 ⟨.running, 250, 0, 0⟩).cfg.wf ∧ (genAt 0 ⟨.running, 250, 0, 0⟩).shaped ∧
      (0 : BitVec 8).toNat < State.reset.cfg.ng ∧ ((genAt 0 ⟨.running, 250, 0, 0⟩).gen 0).mode = .running ∧
      (State.reset.cfg.genCfg 0).kind = .pulse ∧ (State.reset.cfg.genCfg 0).hold = false ∧
      0 < pulseLevel 63 1000 (250 % 1000) := by decide
/-- The three cases of the level function: arrived, rising, falling. -/
theorem test_witness_ZoneLevelInterpolates :
    ((500 : Half).toNat ≤ (500 : Half).toNat) ∧ ((499 : Half).toNat < (500 : Half).toNat ∧ (63 : Half).toNat ≤ (63 : Half).toNat) ∧
      ((0 : Half).toNat < (1 : Half).toNat ∧ (62 : Half).toNat < (63 : Half).toNat) := by decide
theorem test_witness_ZoneLevelIsMonotone : (busy.zone 0).elapsed.toNat ≤ (65535 : Half).toNat := by decide
/-- A zone settled at its new target, and zones that are not. -/
theorem test_witness_ZoneOnOffRestartTheFade :
    busy.shaped ∧ (3 : BitVec 8).toNat < busy.cfg.nz ∧ ((busy.zone 3).level = 0 ∧ (busy.zone 3).target = 0) ∧
      ¬((busy.zone 3).level = busy.cfg.maxLevel ∧ (busy.zone 3).target = busy.cfg.maxLevel) ∧
      ¬((busy.zone 0).level = 0 ∧ (busy.zone 0).target = 0) := by decide
theorem test_witness_ZoneRunCommitsTheLevel :
    busy.shaped ∧ busy.spaceOk .frame ∧ (0 : BitVec 8).toNat < busy.cfg.nz ∧ (busy.cfg.zoneCfg 0).src = .fade ∧
      (busy.cfg.zoneCfg 3).src = .gen 2 := by decide
theorem test_witness_NoJumpOnReversal :
    busy.cfg.wf ∧ busy.shaped ∧ (0 : BitVec 8).toNat < busy.cfg.nz ∧ Zone.ok busy.cfg (busy.zone 0) ∧
      1 ≤ (1 : Half).toNat ∧ (0 : Half).toNat = 0 := by decide
theorem test_witness_FadeReachesItsTargetAtItsDuration :
    busy.shaped ∧ (0 : BitVec 8).toNat < busy.cfg.nz ∧ 1 ≤ (1 : Half).toNat ∧ (busy.zone 0).level ≠ busy.cfg.maxLevel ∧
      (busy.zone 0).level ≠ 0 := by decide
/-- Motion begins from Idle and from FadingOut. -/
theorem test_witness_MotionBeginsFadesIn :
    busy.shaped ∧ { busy with inMotion := true : State }.inMotion = true ∧ busy.sched = .fadingOut ∧
      State.reset.sched = .idle := by decide
/-- The end of the fade-in at 0, one TICK before it, and SteadyOn. -/
theorem test_witness_FadeInCompleteStartsGenerators :
    { busy with inMotion := true, sched := .fadingIn, fadeInTimer := 0 : State }.shaped ∧
      { busy with inMotion := true, sched := .fadingIn, fadeInTimer := 0 : State }.fadeInTimer = 0 ∧
      { busy with inMotion := true, sched := .fadingIn, fadeInTimer := 1 : State }.fadeInTimer ≠ 0 ∧
      { busy with inMotion := true, sched := .steadyOn : State }.sched = .steadyOn := by decide
theorem test_witness_MotionEndsFadesOut :
    { busy with sched := .fadingIn : State }.shaped ∧ { busy with sched := .fadingIn : State }.inMotion = false ∧
      { busy with sched := .steadyOn : State }.sched = .steadyOn := by decide
/-- FadingOut with time left and with none, Idle; with and without a generator that still fades. -/
theorem test_witness_IdleRequestsSleep :
    busy.inMotion = false ∧ (busy.sched = .fadingOut ∧ busy.fadeOutTimer ≠ 0) ∧
      { busy with fadeOutTimer := 0 : State }.fadeOutTimer = 0 ∧ State.reset.sched = .idle ∧
      (busy.gen 0).mode = .stopping ∧ (∀ g < State.reset.cfg.ng, (State.reset.gen g).mode ≠ .stopping) := by decide
/-- A zone that the begin of motion restarts, and one that its end restarts. -/
theorem test_witness_FadeTimerRunsWithTheFades :
    { busy with inMotion := true : State }.shaped ∧ busy.sched = .fadingOut ∧ (busy.cfg.zoneCfg 0).src = .fade ∧
      ¬((busy.zone 0).level = busy.cfg.maxLevel ∧ (busy.zone 0).target = busy.cfg.maxLevel) ∧
      { busy with sched := .steadyOn : State }.shaped ∧ busy.inMotion = false ∧
      ¬((busy.zone 0).level = 0 ∧ (busy.zone 0).target = 0) := by decide
theorem test_witness_EveryOperationAndStepCompletes : busy.cfg.wf := by decide
theorem test_witness_StepKeepsConfiguration :
    ∃ t, step { busy with cmd := [0x05000000] } = .next t ∧ t.cfg = Config.cfgT := by
  obtain ⟨t, h, ht⟩ := next_of_answers (o := step { busy with cmd := [0x05000000] })
    (p := fun t => t.cfg = Config.cfgT) (by decide)
  exact ⟨t, h, by simpa using ht⟩
theorem test_witness_StepKeepsMemoryFormAndFileSizes :
    busy.cfg.wf ∧ busy.spaceOk .frame ∧ busy.spaceOk .dc ∧ busy.shaped ∧
      ∃ t, step { busy with cmd := [0x05000000] } = .next t ∧ t.frame = [(0, 32), (1, 32), (2, 32), (3, 32), (4, 31)] := by
  obtain ⟨t, h, ht⟩ := next_of_answers (o := step { busy with cmd := [0x05000000] })
    (p := fun t => t.frame = [(0, 32), (1, 32), (2, 32), (3, 32), (4, 31)]) (by decide)
  exact ⟨by decide, by decide, by decide, by decide, t, h, by simpa using ht⟩
/-- Each mode of a generator, a zone mid-fade and one at its end, timers at 0 and above. -/
theorem test_witness_TickMovesEveryCounterByOne :
    busy.cfg.wf ∧ busy.shaped ∧ 0 < busy.cfg.nz ∧ 0 < busy.cfg.ng ∧ busy.fadeInTimer = 0 ∧ busy.fadeOutTimer = 250 := by
  decide
theorem test_witness_PollIsItsComponentsInOrder : busy.cfg.wf ∧ busy.asleep = false := by decide
theorem test_witness_PollComposesTheFrame :
    busy.cfg.wf ∧ busy.shaped ∧ busy.spaceOk .frame ∧ busy.asleep = false ∧ (busy.cfg.zoneCfg 0).src = .fade ∧
      (busy.cfg.zoneCfg 1).src = .gen 0 := by decide
theorem test_witness_GenIsrunReportsRunning : (2 : BitVec 8).toNat < busy.cfg.ng := by decide
theorem test_witness_PhaseCountsTicksSinceStart :
    busy.cfg.wf ∧ busy.shaped ∧ (2 : BitVec 8).toNat < busy.cfg.ng := by decide
/-- The premises of the same five statements on the operation and on the state. -/
theorem test_witness_contexts :
    Instr.tick.context = .interrupt ∧ Instr.poll.context = .mainLoop ∧ Instr.status.context ≠ .interrupt ∧
      Instr.status ≠ .reset ∧ busy.spaceOk .frame ∧ { busy with asleep := true : State }.asleep = true := by decide
/-- Every operation answers a next state in `busy`, so the premise `exec i s = .next t` of OnlyInterruptsAndResetWake,
InterruptsWriteOnlyFlagsAndCounters, MainLoopLeavesInterruptRegisters, OnlyTickMovesTime and OnlyCommitsWriteTheSpaces
is met by operations of both contexts, by RESET, and in a sleeping state. -/
theorem test_witness_whole_machine_rules :
    ([Instr.tick, .refresh, .motionEdge, .buttonEdge true, .poll, .reset, .status, .genStart 0, .genStop 1, .genIsrun 2,
      .genStep 0, .zoneOn 0 1, .zoneOff 3 0, .zoneRun 0, .motionTick, .btnConsume, .schedStep].all fun i =>
        answers (exec i busy) (fun _ => true) && answers (exec i { busy with asleep := true }) (fun _ => true)) = true := by
  decide

end Sys2Proof.Tests
end

