-- ==== Sys2Proof/Proofs/Scope.lean ====
section
/-! Proofs/Scope.lean: what `step` does with a configuration that is not well-formed and with a word that decodes, one
equation for each of these branches, and the statements of 00_scope.md that they settle. -/

namespace Sys2Proof.Machine

/-! ## The branches of `step` -/

/-- R8: the configuration is tested before `cmd` is looked at. -/
theorem step_of_not_wf {s : State} (hwf : ¬s.cfg.wf) : step s = .refused .illFormedConfig :=
  if_neg hwf

/-- R3, R42: the word is gone from `cmd` when its operation begins. -/
theorem step_of_decode_ok {s : State} {w : Word} {rest : List Word} {i : Instr} (hwf : s.cfg.wf)
    (hcmd : s.cmd = w :: rest) (hdec : decode s.cfg.nz s.cfg.ng w = .ok i) : step s = exec i { s with cmd := rest } := by
  rw [step, if_pos hwf]
  simp only [hcmd, hdec]

/-! ## The statements -/

/-- Settles O6: of the branches of `step`, a well-formed configuration, a presented word and its decoding leave one. -/
theorem stepPerformsTheDecodedOperation : Obligations.StepPerformsTheDecodedOperation := by
  unfold Obligations.StepPerformsTheDecodedOperation
  intro s w rest i hwf hcmd hdec
  exact step_of_decode_ok hwf hcmd hdec

/-- Settles O8: `step` refuses whatever `cmd` presents, before it decodes anything. -/
theorem illFormedConfigurationIsRefused : Obligations.IllFormedConfigurationIsRefused := by
  unfold Obligations.IllFormedConfigurationIsRefused
  intro s hwf
  exact step_of_not_wf hwf

end Sys2Proof.Machine
end

section
/-! Proofs/State.lean: the effect of an operation as a function of the state, what it does to the configuration and to
`asleep`, that it keeps the invariant of R44, and the statements of 10_state.md that follow. -/

namespace Sys2Proof.Machine

/-! ## One equation for every operation -/

/-- What an operation in range does after `beginOp`, one line for each row of R83. -/
def effect : Instr → State → State
  | .tick, s => s.wake.tick
  | .refresh, s => s.wake.refresh
  | .motionEdge, s => s.wake.motionEdge
  | .buttonEdge level, s => s.wake.buttonEdge level
  | .poll, s => s.poll
  | .reset, s => State.resetOf s.cfg s.cmd
  | .status, s => s.withResult s.statusWord
  | .genStart idx, s => s.genStart idx.toNat
  | .genStop idx, s => s.genStop idx.toNat
  | .genIsrun idx, s => s.withResult (flagWord ((s.gen idx.toNat).mode == .running))
  | .genStep idx, s =>
    (s.genStep idx.toNat).withResult (stepWord (s.genOutput idx.toNat).1 (s.genOutput idx.toNat).2)
  | .zoneOn idx imm, s => s.zoneOn idx.toNat imm
  | .zoneOff idx imm, s => s.zoneOff idx.toNat imm
  | .zoneRun idx, s => (s.zoneRun idx.toNat).withResult (levelWord (s.zone idx.toNat).level)
  | .motionTick, s => s.motionTick
  | .btnConsume, s => s.btnConsume
  | .schedStep, s => s.schedStep

theorem performGen_eq (idx : BitVec 8) (s : State) (body : Nat → State → State) :
    performGen idx s body = .next (if idx.toNat < s.cfg.ng then body idx.toNat s.beginOp else s.raiseRefused) :=
  (apply_ite Host.Outcome.next ..).symm

theorem performZone_eq (idx : BitVec 8) (s : State) (body : Nat → State → State) :
    performZone idx s body = .next (if idx.toNat < s.cfg.nz then body idx.toNat s.beginOp else s.raiseRefused) :=
  (apply_ite Host.Outcome.next ..).symm

/-- R84, R230, R231: an operation in range has its effect, one out of range is refused. -/
theorem exec_eq (i : Instr) (s : State) :
    exec i s = .next (if i.wf s.cfg.nz s.cfg.ng = true then effect i s.beginOp else s.raiseRefused) := by
  cases i with
  | genStart idx | genStop idx | genIsrun idx | genStep idx =>
    simp only [exec, execGenStart, execGenStop, execGenIsrun, execGenStep, performGen_eq, Instr.wf,
      decide_eq_true_eq, effect]
  | zoneOn idx imm | zoneOff idx imm | zoneRun idx =>
    simp only [exec, execZoneOn, execZoneOff, execZoneRun, performZone_eq, Instr.wf, decide_eq_true_eq, effect]
  | _ => rfl

/-- What a performed or refused operation can answer. -/
theorem exec_cases {i : Instr} {s t : State} (h : exec i s = .next t) :
    (i.wf s.cfg.nz s.cfg.ng = true ∧ t = effect i s.beginOp) ∨
    (i.wf s.cfg.nz s.cfg.ng = false ∧ t = s.raiseRefused) := by
  rw [exec_eq] at h
  injection h with h
  cases hwf : i.wf s.cfg.nz s.cfg.ng with
  | true => exact .inl ⟨rfl, by rw [← h, if_pos hwf]⟩
  | false => exact .inr ⟨rfl, by rw [← h, if_neg (by simp [hwf])]⟩

/-! ## What a step can do -/

theorem step_of_no_word {s : State} (hwf : s.cfg.wf) (hcmd : s.cmd = []) : step s = .next s.idle := by
  rw [step, if_pos hwf]
  simp only [hcmd]

theorem step_of_decode_error {s : State} {w : Word} {rest : List Word} {r : DecodeRefusal} (hwf : s.cfg.wf)
    (hcmd : s.cmd = w :: rest) (hdec : decode s.cfg.nz s.cfg.ng w = .error r) :
    step s = .next (State.raiseRefused { s with cmd := rest }) := by
  rw [step, if_pos hwf]
  simp only [hcmd, hdec]

theorem wf_of_step_next {s t : State} (h : step s = .next t) : s.cfg.wf := by
  by_contra hwf
  rw [step_of_not_wf hwf] at h
  cases h

/-- A step that answers a state idles, performs the operation of the presented word, or refuses that word. -/
theorem step_cases {s t : State} (h : step s = .next t) :
    (s.cmd = [] ∧ t = s.idle) ∨
    (∃ w rest i, s.cmd = w :: rest ∧ decode s.cfg.nz s.cfg.ng w = .ok i ∧ exec i { s with cmd := rest } = .next t) ∨
    ∃ w rest r, s.cmd = w :: rest ∧ decode s.cfg.nz s.cfg.ng w = .error r ∧
      t = State.raiseRefused { s with cmd := rest } := by
  have hwf := wf_of_step_next h
  cases hcmd : s.cmd with
  | nil =>
    rw [step_of_no_word hwf hcmd] at h
    injection h with h
    exact .inl ⟨rfl, h.symm⟩
  | cons w rest =>
    cases hdec : decode s.cfg.nz s.cfg.ng w with
    | ok i =>
      rw [step_of_decode_ok hwf hcmd hdec] at h
      exact .inr (.inl ⟨w, rest, i, rfl, hdec, h⟩)
    | error r =>
      rw [step_of_decode_error hwf hcmd hdec] at h
      injection h with h
      exact .inr (.inr ⟨w, rest, r, rfl, hdec, h.symm⟩)

/-! ## The configuration and `asleep` -/

@[simp] theorem State.poll_cfg (s : State) : s.poll.cfg = s.cfg := by
  unfold State.poll
  split
  · rfl
  · simp

/-- R41, R73: no operation writes a configuration register. -/
theorem effect_cfg (i : Instr) (s : State) : (effect i s).cfg = s.cfg := by
  cases i <;> simp [effect]

theorem exec_cfg {i : Instr} {s t : State} (h : exec i s = .next t) : t.cfg = s.cfg := by
  rcases exec_cases h with ⟨-, rfl⟩ | ⟨-, rfl⟩
  · exact effect_cfg i s.beginOp
  · rfl

/-- R27: the interrupt-context operations and RESET are in range and leave the block awake. -/
theorem exec_wakes {i : Instr} {s t : State} (hi : i.context = .interrupt ∨ i = .reset) (h : exec i s = .next t) :
    t.asleep = false := by
  rw [exec_eq] at h
  injection h with h
  subst h
  cases i with
  | tick | refresh | motionEdge | buttonEdge _ | reset => simp [Instr.wf, effect]
  | _ => simp [Instr.context] at hi

/-- R187: SCHED_STEP can only set `asleep`. -/
theorem State.schedStep_asleep_of_asleep {s : State} (h : s.asleep = true) : s.schedStep.asleep = true := by
  unfold State.schedStep State.sleepRequest
  split
  · rfl
  · simpa using h

/-- R215: a sleeping POLL does nothing. -/
theorem State.poll_of_asleep {s : State} (h : s.asleep = true) : s.poll = s := if_pos h

/-- Every other operation, but POLL and SCHED_STEP, leaves `asleep` as it is. -/
theorem effect_asleep {i : Instr} (hi : i.context ≠ .interrupt) (hr : i ≠ .reset) (hp : i ≠ .poll)
    (hs : i ≠ .schedStep) (s : State) : (effect i s).asleep = s.asleep := by
  cases i with
  | tick | refresh | motionEdge | buttonEdge _ => exact absurd rfl hi
  | reset => exact absurd rfl hr
  | poll => exact absurd rfl hp
  | schedStep => exact absurd rfl hs
  | _ => simp [effect]

/-- R244: outside the interrupt context only RESET ends a sleep. -/
theorem exec_stays_asleep {i : Instr} {s t : State} (hi : i.context ≠ .interrupt) (hr : i ≠ .reset)
    (hs : s.asleep = true) (h : exec i s = .next t) : t.asleep = true := by
  rcases exec_cases h with ⟨-, rfl⟩ | ⟨-, rfl⟩
  · by_cases hp : i = .poll
    · subst hp
      exact (congrArg State.asleep (State.poll_of_asleep (s := s.beginOp) hs)).trans hs
    · by_cases hss : i = .schedStep
      · subst hss
        exact State.schedStep_asleep_of_asleep hs
      · exact (effect_asleep hi hr hp hss s.beginOp).trans hs
  · exact hs

/-- R187, R215: only the operations that evaluate the sleep condition begin a sleep. -/
theorem exec_falls_asleep {i : Instr} {s t : State} (hs : s.asleep = false) (ht : t.asleep = true)
    (h : exec i s = .next t) : i = .poll ∨ i = .schedStep := by
  by_contra hi
  obtain ⟨hp, hss⟩ := not_or.1 hi
  have awake : t.asleep = false := by
    by_cases hw : i.context = .interrupt ∨ i = .reset
    · exact exec_wakes hw h
    · obtain ⟨hc, hr⟩ := not_or.1 hw
      rcases exec_cases h with ⟨-, rfl⟩ | ⟨-, rfl⟩
      · exact (effect_asleep hc hr hp hss s.beginOp).trans hs
      · exact hs
  exact absurd ht (by simp [awake])

/-! ## R44 (ii): the registers of one zone -/

/-- The level lies between `from` and `target`, so it does not exceed MAX (R130). -/
theorem Zone.level_le_max {c : Config} {r : Zone} (h : Zone.ok c r) : r.level.toNat ≤ c.maxLevel.toNat := by
  obtain ⟨-, htarget, hfrom, -⟩ := h
  have ht : r.target.toNat ≤ c.maxLevel.toNat := by
    rcases htarget with h | h <;> simp [h]
  simp only [Zone.level]
  split
  · exact ht
  · rename_i hde
    split
    · have hstep : (r.target.toNat - r.fromLevel.toNat) * r.elapsed.toNat / r.dur.toNat ≤
          r.target.toNat - r.fromLevel.toNat :=
        Nat.div_le_of_le_mul (by rw [Nat.mul_comm]; exact Nat.mul_le_mul_right _ (by omega))
      rw [BitVec.toNat_ofNat]
      exact (Nat.mod_le _ _).trans (by omega)
    · rw [BitVec.toNat_ofNat]
      exact (Nat.mod_le _ _).trans ((Nat.sub_le _ _).trans hfrom)

theorem Zone.zero_ok (c : Config) : Zone.ok c Zone.zero := by simp [Zone.ok, Zone.zero]

theorem Zone.retarget_ok {c : Config} {r : Zone} {goal : Half} (d : Half) (hgoal : goal = 0 ∨ goal = c.maxLevel)
    (h : Zone.ok c r) : Zone.ok c (r.retarget goal d) := by
  unfold Zone.retarget
  split
  · exact h
  · exact ⟨Nat.zero_le _, hgoal, Zone.level_le_max h, Zone.level_le_max h⟩

theorem Zone.tick_ok {c : Config} {r : Zone} (h : Zone.ok c r) : Zone.ok c r.tick := by
  obtain ⟨helapsed, hrest⟩ := h
  unfold Zone.tick
  split
  · refine ⟨?_, hrest⟩
    simp only [BitVec.toNat_ofNat]
    exact (Nat.mod_le _ _).trans (by omega)
  · exact ⟨helapsed, hrest⟩

theorem Zone.run_ok {c : Config} {r : Zone} (h : Zone.ok c r) : Zone.ok c { r with cur := r.level } := by
  have hlevel := Zone.level_le_max h
  obtain ⟨helapsed, htarget, hfrom, -⟩ := h
  exact ⟨helapsed, htarget, hfrom, hlevel⟩

/-! ## R44 (iii), (vi): the registers of one generator -/

/-- Every period of a well-formed configuration is at least 1 (R7). -/
theorem GenCfg.period_pos {gc : GenCfg} (h : gc.wf = true) : 0 < gc.period.toNat := by
  unfold GenCfg.wf at h
  split at h
  · simp only [decide_eq_true_eq] at h
    omega
  · simp only [Bool.and_eq_true, decide_eq_true_eq] at h
    omega
  · simp only [Bool.and_eq_true, decide_eq_true_eq] at h
    omega

/-- Every generator a rule can name is well-formed, the default of log 14 included. -/
theorem Config.genCfg_wf {c : Config} (h : c.wf) (g : Nat) : (c.genCfg g).wf = true := by
  obtain ⟨-, -, -, -, -, -, -, -, hgens, -⟩ := h
  rw [Config.genCfg, List.getD_eq_getElem?_getD]
  cases hg : c.gens[g]? with
  | none => rfl
  | some gc => exact hgens gc (List.mem_of_getElem? hg)

theorem Gen.ok_of_stopped {gc : GenCfg} {r : Gen} (hmode : r.mode = .stopped) (hacc : r.acc = 0) : Gen.ok gc r := by
  simp [Gen.ok, hmode, hacc]

theorem Gen.ok_of_stopping {gc : GenCfg} {r : Gen} (hmode : r.mode = .stopping) (hkind : gc.kind = .pulse)
    (hhold : gc.hold = false) (hfade : r.fadeFrom ≠ 0) : Gen.ok gc r := by
  simpa [Gen.ok, hmode, hkind, hhold] using hfade

theorem Gen.start_ok {gc : GenCfg} (r : Gen) (hp : 0 < gc.period.toNat) : Gen.ok gc r.start := by
  simpa [Gen.ok, Gen.start] using hp

/-- GEN_STOP goes to STOPPING only for a Pulse without hold, caught at a level other than 0 (R104). -/
theorem Gen.stop_ok {gc : GenCfg} {r : Gen} (c : Config) (h : Gen.ok gc r) : Gen.ok gc (r.stop c gc) := by
  unfold Gen.stop
  split
  · split
    · exact Gen.ok_of_stopped rfl rfl
    · rename_i hfade
      dsimp only
      split
      · exact Gen.ok_of_stopped rfl rfl
      · rename_i hlevel
        simp only [Bool.or_eq_true, bne_iff_ne, not_or, Bool.not_eq_true, not_not] at hfade
        obtain ⟨hhold, hkind⟩ := hfade
        exact Gen.ok_of_stopping rfl hkind hhold hlevel
  all_goals exact h

/-- `last` is free in R44, and a stop-fade that reaches 0 becomes STOPPED with `acc` 0 (R106). -/
theorem Gen.settle_ok {gc : GenCfg} {r : Gen} (b : Half) (h : Gen.ok gc r) : Gen.ok gc (r.settle b) := by
  unfold Gen.settle
  split
  · split
    · exact Gen.ok_of_stopped rfl rfl
    · exact h
  all_goals exact h

theorem Gen.tick_ok {gc : GenCfg} {r : Gen} (hp : 0 < gc.period.toNat) (h : Gen.ok gc r) : Gen.ok gc (r.tick gc) := by
  unfold Gen.tick
  split
  · rename_i hmode
    have hphase : (r.acc.toNat + 1) % gc.period.toNat < gc.period.toNat := Nat.mod_lt _ hp
    simpa [Gen.ok, hmode] using (Nat.mod_le _ _).trans_lt hphase
  · rename_i hmode
    simpa [Gen.ok, hmode] using h
  all_goals exact h

/-! ## The invariant under the single writes -/

/-- Registers of a zone that have R44 (ii) may be written. -/
theorem State.Inv.setZone {s : State} (h : s.Inv) {z : Nat} {r : Zone} (hz : z < s.cfg.nz) (hr : Zone.ok s.cfg r) :
    (s.setZone z r).Inv where
  __ := h
  shape := ⟨(State.zones_length_setZone s z r).trans h.shape.1, h.shape.2⟩
  zones y hy := by
    by_cases hyz : y = z
    · subst hyz
      rw [State.zone_setZone_same s y r (h.shape.1 ▸ hz)]
      exact hr
    · rw [State.zone_setZone_other s z y r hyz]
      exact h.zones y hy

/-- Registers of a generator that have R44 (iii) and (vi) may be written. -/
theorem State.Inv.setGen {s : State} (h : s.Inv) {g : Nat} {r : Gen} (hg : g < s.cfg.ng)
    (hr : Gen.ok (s.cfg.genCfg g) r) : (s.setGen g r).Inv where
  __ := h
  shape := ⟨h.shape.1, (State.gens_length_setGen s g r).trans h.shape.2⟩
  gens y hy := by
    by_cases hyg : y = g
    · subst hyg
      rw [State.gen_setGen_same s y r (h.shape.2 ▸ hg)]
      exact hr
    · rw [State.gen_setGen_other s g y r hyg]
      exact h.gens y hy

/-- A commit writes values of at most MAX to channels that exist (R44 iv, R68). -/
theorem State.Inv.commit {s : State} (h : s.Inv) (hwf : s.cfg.wf) (z : Nat) (v : Half) : (s.commit z v).Inv := by
  have hspace (sp : Space) (hsp : s.spaceOk sp) : (s.commit z v).spaceOk sp :=
    State.commit_spaceOk s z v sp (fun ch hch => Config.channels_lt hwf hch) hsp
  have hdc (ch : Nat) : (s.commit z v).memRead .dc ch = s.memRead .dc ch :=
    State.memRead_congr _ _ .dc (State.commit_cfg s z v) (State.commit_dc s z v) ch
  refine
    { shape := by simpa [State.shaped] using h.shape
      frameForm := hspace .frame h.frameForm
      dcForm := hspace .dc h.dcForm
      button := by simpa using h.button
      zones := by simpa [State.zone] using h.zones
      gens := by simpa [State.gen] using h.gens
      frame := fun ch hch => ?_
      dc := by simpa [hdc] using h.dc
      press := by simpa using h.press
      lock := by simpa using h.lock }
  rw [State.commit_cfg] at hch ⊢
  rw [State.memRead_commit s z v h.frameForm.1]
  split
  · rw [clampB_toNat]
    exact Nat.min_le_right _ _
  · exact h.frame ch hch

/-- A loop keeps the invariant when each of its rounds keeps it and the configuration. -/
theorem State.Inv.foldl {s : State} (h : s.Inv) (round : State → Nat → State) (l : List Nat)
    (hcfg : ∀ t b, (round t b).cfg = t.cfg)
    (hround : ∀ t : State, t.cfg = s.cfg → ∀ b ∈ l, t.Inv → (round t b).Inv) : (l.foldl round s).Inv :=
  (foldl_invariant (fun t : State => t.Inv ∧ t.cfg = s.cfg) round l s
    (fun t b hb ht => ⟨hround t ht.2 b hb ht.1, (hcfg t b).trans ht.2⟩) ⟨h, rfl⟩).1

/-! ## The invariant under the parts of the operations -/

/-- TICK (R210): every zone and every generator keeps its clause of R44. -/
theorem State.Inv.tick {s : State} (h : s.Inv) (hwf : s.cfg.wf) : s.tick.Inv where
  __ := h
  shape := by simpa [State.shaped, State.tick] using h.shape
  zones z hz := by
    rw [State.tick_zone s z (h.shape.1 ▸ hz)]
    exact Zone.tick_ok (h.zones z hz)
  gens g hg := by
    rw [State.tick_gen s g (h.shape.2 ▸ hg)]
    exact Gen.tick_ok (GenCfg.period_pos (Config.genCfg_wf hwf g)) (h.gens g hg)

theorem State.classify_ne_three (s : State) : s.classify ≠ .three := by
  unfold State.classify
  split
  · simp
  · split <;> simp

/-- BUTTON_EDGE (R160, R161): `depressed` follows the level, and a class that is stored is one of R162. -/
theorem State.Inv.buttonEdge {s : State} (h : s.Inv) (level : Bool) : (s.buttonEdge level).Inv := by
  unfold State.buttonEdge
  split
  · exact h
  · dsimp only
    split
    · rename_i hclosed
      exact { h with button := by simpa [State.pressEdge] using hclosed }
    · rename_i hopen
      unfold State.releaseEdge
      split
      · refine { h with button := by simpa using hopen, press := ?_ }
        dsimp only
        split
        · exact h.press
        · exact State.classify_ne_three _
      · rename_i hup
        exact { h with button := iff_of_false hup hopen }

/-- A Short press (R164): DC follows `halfBrightness` channel by channel. -/
theorem State.Inv.shortAction {s : State} (h : s.Inv) : s.shortAction.Inv := by
  have hform (sp : Space) (hsp : s.spaceOk sp) : s.shortAction.spaceOk sp :=
    State.foldl_write_spaceOk { s with halfBrightness := !s.halfBrightness } .dc sp
      (fun u ch => if u.halfBrightness then u.cfg.dcHalfAt ch else u.cfg.dcFullAt ch) (List.range s.cfg.n)
      (fun ch hch => List.mem_range.1 hch) hsp
  have hframe (ch : Nat) : s.shortAction.memRead .frame ch = s.memRead .frame ch :=
    State.memRead_congr _ _ .frame (State.shortAction_cfg s) (State.shortAction_frame s) ch
  refine
    { shape := by simpa [State.shaped] using h.shape
      frameForm := hform .frame h.frameForm
      dcForm := hform .dc h.dcForm
      button := by simpa using h.button
      zones := by simpa [State.zone] using h.zones
      gens := by simpa [State.gen] using h.gens
      frame := by simpa [hframe] using h.frame
      dc := fun ch hch => ?_
      press := by simpa using h.press
      lock := by simpa using h.lock }
  rw [State.shortAction_cfg] at hch ⊢
  rw [State.memRead_shortAction s h.dcForm.1, if_pos hch, State.shortAction_halfBrightness]
  cases s.halfBrightness <;> rfl

/-- A Long press toggles `lockout` only where LONG_LOCKOUT is set (R44 vii, R165). -/
theorem State.Inv.longAction {s : State} (h : s.Inv) : s.longAction.Inv where
  __ := h
  lock hlock := by
    by_cases hcfg : s.cfg.longLockout = true
    · exact hcfg
    · exact h.lock (by simpa [hcfg] using hlock)

/-- BTN_CONSUME (R163). -/
theorem State.Inv.btnConsume {s : State} (h : s.Inv) : s.btnConsume.Inv := by
  have hnone : State.Inv { s with pressClass := .none } := { h with press := by simp }
  unfold State.btnConsume
  dsimp only
  split
  · exact hnone
  · exact hnone.shortAction
  · exact hnone.longAction
  · exact hnone

theorem State.Inv.motionEdge {s : State} (h : s.Inv) : s.motionEdge.Inv := by
  unfold State.motionEdge
  split
  · exact h
  · exact { h with }

theorem State.Inv.motionTick {s : State} (h : s.Inv) : s.motionTick.Inv := by
  unfold State.motionTick
  split
  · exact { h with }
  · exact h

theorem State.Inv.genStart {s : State} (h : s.Inv) (hwf : s.cfg.wf) {g : Nat} (hg : g < s.cfg.ng) :
    (s.genStart g).Inv :=
  h.setGen hg (Gen.start_ok _ (GenCfg.period_pos (Config.genCfg_wf hwf g)))

theorem State.Inv.genStop {s : State} (h : s.Inv) {g : Nat} (hg : g < s.cfg.ng) : (s.genStop g).Inv :=
  h.setGen hg (Gen.stop_ok s.cfg (h.gens g hg))

theorem State.Inv.genStep {s : State} (h : s.Inv) (hwf : s.cfg.wf) {g : Nat} (hg : g < s.cfg.ng) :
    (s.genStep g).Inv :=
  (h.setGen hg (Gen.settle_ok _ (h.gens g hg))).foldl _ _ (fun t z => State.commit_cfg t z _)
    fun _ ht z _ hinv => hinv.commit (ht ▸ hwf) z _

theorem State.Inv.zoneOn {s : State} (h : s.Inv) {z : Nat} (hz : z < s.cfg.nz) (d : Half) : (s.zoneOn z d).Inv :=
  h.setZone hz (Zone.retarget_ok d (.inr rfl) (h.zones z hz))

theorem State.Inv.zoneOff {s : State} (h : s.Inv) {z : Nat} (hz : z < s.cfg.nz) (d : Half) : (s.zoneOff z d).Inv :=
  h.setZone hz (Zone.retarget_ok d (.inl rfl) (h.zones z hz))

theorem State.Inv.zoneRun {s : State} (h : s.Inv) (hwf : s.cfg.wf) {z : Nat} (hz : z < s.cfg.nz) :
    (s.zoneRun z).Inv := by
  have hrun := h.setZone hz (Zone.run_ok (h.zones z hz))
  unfold State.zoneRun
  dsimp only
  split
  · exact hrun.commit hwf z _
  · exact hrun

/-! ## The invariant under the loops and the scheduler -/

theorem State.Inv.ambientOn {s : State} (h : s.Inv) : s.ambientOn.Inv :=
  h.foldl _ _ (fun _ _ => rfl) fun _ ht _ hz hinv => hinv.zoneOn (ht ▸ (mem_ambientZones.1 hz).1) _

theorem State.Inv.ambientOff {s : State} (h : s.Inv) : s.ambientOff.Inv :=
  h.foldl _ _ (fun _ _ => rfl) fun _ ht _ hz hinv => hinv.zoneOff (ht ▸ (mem_ambientZones.1 hz).1) _

theorem State.Inv.startAll {s : State} (h : s.Inv) (hwf : s.cfg.wf) : s.startAll.Inv :=
  h.foldl _ _ (fun _ _ => rfl) fun _ ht _ hg hinv => hinv.genStart (ht ▸ hwf) (ht ▸ List.mem_range.1 hg)

theorem State.Inv.stopAll {s : State} (h : s.Inv) : s.stopAll.Inv :=
  h.foldl _ _ (fun _ _ => rfl) fun _ ht _ hg hinv => hinv.genStop (ht ▸ List.mem_range.1 hg)

theorem State.Inv.runZones {s : State} (h : s.Inv) (hwf : s.cfg.wf) : s.runZones.Inv :=
  h.foldl _ _ State.zoneRun_cfg fun _ ht _ hz hinv => hinv.zoneRun (ht ▸ hwf) (ht ▸ List.mem_range.1 hz)

theorem State.Inv.stepGens {s : State} (h : s.Inv) (hwf : s.cfg.wf) : s.stepGens.Inv :=
  h.foldl _ _ State.genStep_cfg fun _ ht _ hg hinv => hinv.genStep (ht ▸ hwf) (ht ▸ List.mem_range.1 hg)

theorem State.Inv.motionBegins {s : State} (h : s.Inv) (hwf : s.cfg.wf) : s.motionBegins.Inv := by
  have hon : State.Inv { s.ambientOn with fadeInTimer := s.cfg.fadeMs, sched := .fadingIn } := { h.ambientOn with }
  unfold State.motionBegins
  dsimp only
  split
  · exact hon
  · exact hon.startAll (by simpa using hwf)

theorem State.Inv.fadeInDone {s : State} (h : s.Inv) (hwf : s.cfg.wf) : s.fadeInDone.Inv := by
  have hon : State.Inv { s with sched := .steadyOn } := { h with }
  unfold State.fadeInDone
  dsimp only
  split
  · exact hon.startAll hwf
  · exact hon

theorem State.Inv.motionEnds {s : State} (h : s.Inv) : s.motionEnds.Inv :=
  { h.ambientOff.stopAll with }

/-- SCHED_STEP's `case`, arm by arm (R188). -/
theorem State.Inv.transition {s : State} (h : s.Inv) (hwf : s.cfg.wf) : s.transition.Inv := by
  have hidle : State.Inv { s with sched := .idle } := { h with }
  unfold State.transition
  split
  · split
    · exact h.motionBegins hwf
    · exact h
  · split
    · exact h.motionBegins hwf
    · split
      · exact hidle
      · exact h
  · split
    · split
      · exact h.fadeInDone hwf
      · exact h
    · exact h.motionEnds
  · split
    · exact h
    · exact h.motionEnds

theorem State.Inv.schedStep {s : State} (h : s.Inv) (hwf : s.cfg.wf) : s.schedStep.Inv := by
  have ht := h.transition hwf
  unfold State.schedStep State.sleepRequest
  split
  · exact { ht with }
  · exact ht

/-- POLL composes its parts (R214). -/
theorem State.Inv.poll {s : State} (h : s.Inv) (hwf : s.cfg.wf) : s.poll.Inv := by
  unfold State.poll
  split
  · exact h
  · have hsched := h.btnConsume.motionTick.schedStep (by simpa using hwf)
    exact (hsched.runZones (by simpa using hwf)).stepGens (by simpa using hwf)

/-! ## The invariant after RESET and after every step -/

@[simp] theorem State.zone_resetOf (c : Config) (input : List Word) (z : Nat) :
    (State.resetOf c input).zone z = Zone.zero := by
  simp only [State.zone, State.resetOf_zones, List.getD_eq_getElem?_getD, List.getElem?_replicate]
  split <;> rfl

@[simp] theorem State.gen_resetOf (c : Config) (input : List Word) (g : Nat) :
    (State.resetOf c input).gen g = Gen.zero := by
  simp only [State.gen, State.resetOf_gens, List.getD_eq_getElem?_getD, List.getElem?_replicate]
  split <;> rfl

@[simp] theorem State.memRead_resetOf (c : Config) (input : List Word) (sp : Space) (ch : Nat) :
    (State.resetOf c input).memRead sp ch = unlisted c sp ch := by
  cases sp <;> rfl

theorem State.shaped_resetOf (c : Config) (input : List Word) : (State.resetOf c input).shaped :=
  ⟨List.length_replicate, List.length_replicate⟩

/-- R45, whether or not the configuration is well-formed: at reset every clause holds by the reset values. -/
theorem State.inv_resetOf (c : Config) (input : List Word) : (State.resetOf c input).Inv where
  shape := State.shaped_resetOf c input
  frameForm := ⟨Memory.nil_wf _, by simp [State.space]⟩
  dcForm := ⟨Memory.nil_wf _, by simp [State.space]⟩
  button := by simp
  zones z _ := by
    rw [State.zone_resetOf]
    exact Zone.zero_ok c
  gens g _ := by
    rw [State.gen_resetOf]
    exact Gen.ok_of_stopped rfl rfl
  frame _ _ := Nat.zero_le _
  dc _ _ := rfl
  press := by simp
  lock := by simp

/-- R44: every operation in range keeps the invariant. -/
theorem State.Inv.effect {s : State} (h : s.Inv) (hwf : s.cfg.wf) {i : Instr}
    (hi : i.wf s.cfg.nz s.cfg.ng = true) : (effect i s).Inv := by
  have hwake : s.wake.Inv := { h with }
  have hresult {t : State} (ht : t.Inv) (w : Word) : (t.withResult w).Inv := { ht with }
  cases i with
  | tick => exact hwake.tick hwf
  | refresh => exact { h with }
  | motionEdge => exact hwake.motionEdge
  | buttonEdge level => exact hwake.buttonEdge level
  | poll => exact h.poll hwf
  | reset => exact State.inv_resetOf s.cfg s.cmd
  | status => exact hresult h _
  | genStart idx => exact h.genStart hwf (of_decide_eq_true hi)
  | genStop idx => exact h.genStop (of_decide_eq_true hi)
  | genIsrun idx => exact hresult h _
  | genStep idx => exact hresult (h.genStep hwf (of_decide_eq_true hi)) _
  | zoneOn idx imm => exact h.zoneOn (of_decide_eq_true hi) imm
  | zoneOff idx imm => exact h.zoneOff (of_decide_eq_true hi) imm
  | zoneRun idx => exact hresult (h.zoneRun hwf (of_decide_eq_true hi)) _
  | motionTick => exact h.motionTick
  | btnConsume => exact h.btnConsume
  | schedStep => exact h.schedStep hwf

/-- R44 for one operation, performed or refused. -/
theorem State.Inv.exec {i : Instr} {s t : State} (h : s.Inv) (hwf : s.cfg.wf) (ht : exec i s = .next t) : t.Inv := by
  rcases exec_cases ht with ⟨hi, rfl⟩ | ⟨-, rfl⟩
  · have hbegin : s.beginOp.Inv := { h with }
    exact hbegin.effect hwf hi
  · exact { h with }

/-! ## The statements -/

/-- Settles O14: the ports and `cmd` are no part of the invariant, and every operation keeps it. -/
theorem stepKeepsInvariant : Obligations.StepKeepsInvariant := by
  unfold Obligations.StepKeepsInvariant
  intro s t hwf h hstep
  rcases step_cases hstep with ⟨-, rfl⟩ | ⟨w, rest, i, -, -, hexec⟩ | ⟨w, rest, r, -, -, rfl⟩
  · exact { h with }
  · have hrest : State.Inv { s with cmd := rest } := { h with }
    exact hrest.exec hwf hexec
  · exact { h with }

/-- Settles O13: neither an idle step, nor an operation, nor a refusal writes `cfg`. -/
theorem stepKeepsConfiguration : Obligations.StepKeepsConfiguration := by
  unfold Obligations.StepKeepsConfiguration
  intro s t hstep
  rcases step_cases hstep with ⟨-, rfl⟩ | ⟨w, rest, i, -, -, hexec⟩ | ⟨w, rest, r, -, -, rfl⟩
  · rfl
  · exact (exec_cfg hexec :)
  · rfl

/-- Settles O56: what wakes, what stays asleep and what falls asleep, one lemma each. -/
theorem onlyInterruptsAndResetWake : Obligations.OnlyInterruptsAndResetWake := by
  unfold Obligations.OnlyInterruptsAndResetWake
  intro i s t hexec
  exact ⟨fun hi => exec_wakes hi hexec, fun hi hr hs => exec_stays_asleep hi hr hs hexec,
    fun hs ht => exec_falls_asleep hs ht hexec⟩

/-- Settles O9: with no word on `cmd` the step is `State.idle`. -/
theorem stepWithoutWordKeepsEverything : Obligations.StepWithoutWordKeepsEverything := by
  unfold Obligations.StepWithoutWordKeepsEverything
  intro s hwf hcmd
  exact step_of_no_word hwf hcmd

/-- Settles O15: the clauses of R44 hold at the values of R45 under every configuration. -/
theorem invariantHoldsAfterReset : Obligations.InvariantHoldsAfterReset := by
  unfold Obligations.InvariantHoldsAfterReset
  exact ⟨State.inv_resetOf Config.cfgT [], fun c input _ => State.inv_resetOf c input⟩

/-- Settles O22: RESET answers `State.resetOf` of the configuration and the words it finds, and that state holds the
table of R45. -/
theorem resetLoadsTheResetTable : Obligations.ResetLoadsTheResetTable := by
  unfold Obligations.ResetLoadsTheResetTable
  intro s
  refine ⟨State.resetOf s.cfg s.cmd, exec_eq .reset s, ?_⟩
  have hshape := State.shaped_resetOf s.cfg s.cmd
  simpa [Zone.zero, Gen.zero, unlisted] using hshape

end Sys2Proof.Machine
end

section
/-! Proofs/Memory.lean: the round trip from an operation to its word, that no operation depends on the words that
follow it, which operations write FRAME, DC and the registers of the two contexts, and the statements of 20_memory.md
that follow. -/

namespace Sys2Proof.Machine

/-! ## The decoder reads back an encoded operation -/

theorem instrOfOpcode_encode (i : Instr) : instrOfOpcode (encode i) = some i := by
  cases i with
  | buttonEdge level => cases level <;> simp [instrOfOpcode, encode]
  | _ => simp [instrOfOpcode, encode]

/-- R80: the must-be-0 bits of an operation's word are 0. -/
theorem encode_and_reserved (i : Instr) : encode i &&& i.format.reserved = 0 := by
  obtain ⟨-, -, hI, hD⟩ := reserved_fields
  cases i with
  | buttonEdge level => cases level <;> decide
  | zoneOn | zoneOff =>
    rw [encode, Instr.format, hD, fieldsWord_and, fieldsWord_eq_zero]
    simp
  | genStart | genStop | genIsrun | genStep | zoneRun =>
    rw [encode, Instr.format, hI, fieldsWord_and, fieldsWord_eq_zero]
    simp
  | _ => decide

/-- R80, R81, R83: the round trip from an operation in range to its word and back. -/
theorem decode_encode {nz ng : Nat} {i : Instr} (h : i.wf nz ng = true) : decode nz ng (encode i) = .ok i := by
  simp [decode, instrOfOpcode_encode, encode_and_reserved, h]

/-! ## No operation reads or writes `cmd` (R42, log 3) -/

/-- The state with another stream of words still to be presented. -/
def State.withCmd (s : State) (words : List Word) : State := { s with cmd := words }

@[simp] theorem State.withCmd_cfg (s : State) (words : List Word) : (s.withCmd words).cfg = s.cfg := rfl

theorem State.withCmd_ite (p : Prop) [Decidable p] (s t : State) (words : List Word) :
    (if p then s else t).withCmd words = if p then s.withCmd words else t.withCmd words :=
  apply_ite (State.withCmd · words) p s t

/-- A loop each round of which is independent of `cmd` is independent of it. -/
theorem State.foldl_withCmd (round : State → Nat → State)
    (hround : ∀ t b words, round (t.withCmd words) b = (round t b).withCmd words) (l : List Nat) (s : State)
    (words : List Word) : l.foldl round (s.withCmd words) = (l.foldl round s).withCmd words :=
  List.foldl_hom (State.withCmd · words) fun t b => hround t b words

theorem State.commit_withCmd (s : State) (z : Nat) (v : Half) (words : List Word) :
    (s.withCmd words).commit z v = (s.commit z v).withCmd words :=
  State.foldl_withCmd _ (fun _ _ _ => rfl) _ s words

theorem State.genStep_withCmd (s : State) (g : Nat) (words : List Word) :
    (s.withCmd words).genStep g = (s.genStep g).withCmd words :=
  State.foldl_withCmd _ (fun t z => State.commit_withCmd t z _) _
    (s.setGen g ((s.gen g).settle (s.genOutput g).1)) words

theorem State.zoneRun_withCmd (s : State) (z : Nat) (words : List Word) :
    (s.withCmd words).zoneRun z = (s.zoneRun z).withCmd words := by
  unfold State.zoneRun
  rw [State.withCmd_cfg]
  cases (s.cfg.zoneCfg z).src with
  | fade => exact State.commit_withCmd (s.setZone z { s.zone z with cur := (s.zone z).level }) z _ words
  | gen _ => rfl

theorem State.shortAction_withCmd (s : State) (words : List Word) :
    (s.withCmd words).shortAction = s.shortAction.withCmd words :=
  congrArg State.emitDc
    (State.foldl_withCmd _ (fun _ _ _ => rfl) _ { s with halfBrightness := !s.halfBrightness } words)

theorem State.btnConsume_withCmd (s : State) (words : List Word) :
    (s.withCmd words).btnConsume = s.btnConsume.withCmd words := by
  have hpress : (s.withCmd words).pressClass = s.pressClass := rfl
  unfold State.btnConsume
  rw [hpress]
  cases s.pressClass with
  | short => exact State.shortAction_withCmd { s with pressClass := .none } words
  | none | long | three => rfl

theorem State.motionEdge_withCmd (s : State) (words : List Word) :
    (s.withCmd words).motionEdge = s.motionEdge.withCmd words := by
  unfold State.motionEdge
  rw [State.withCmd_ite]
  rfl

theorem State.motionTick_withCmd (s : State) (words : List Word) :
    (s.withCmd words).motionTick = s.motionTick.withCmd words := by
  unfold State.motionTick
  rw [State.withCmd_ite]
  rfl

theorem State.buttonEdge_withCmd (s : State) (level : Bool) (words : List Word) :
    (s.withCmd words).buttonEdge level = (s.buttonEdge level).withCmd words := by
  unfold State.buttonEdge State.releaseEdge
  simp only [State.withCmd_ite]
  rfl

theorem State.ambientOn_withCmd (s : State) (words : List Word) :
    (s.withCmd words).ambientOn = s.ambientOn.withCmd words :=
  State.foldl_withCmd _ (fun _ _ _ => rfl) _ s words

theorem State.ambientOff_withCmd (s : State) (words : List Word) :
    (s.withCmd words).ambientOff = s.ambientOff.withCmd words :=
  State.foldl_withCmd _ (fun _ _ _ => rfl) _ s words

theorem State.startAll_withCmd (s : State) (words : List Word) :
    (s.withCmd words).startAll = s.startAll.withCmd words :=
  State.foldl_withCmd _ (fun _ _ _ => rfl) _ s words

theorem State.stopAll_withCmd (s : State) (words : List Word) :
    (s.withCmd words).stopAll = s.stopAll.withCmd words :=
  State.foldl_withCmd _ (fun _ _ _ => rfl) _ s words

theorem State.runZones_withCmd (s : State) (words : List Word) :
    (s.withCmd words).runZones = s.runZones.withCmd words :=
  State.foldl_withCmd _ State.zoneRun_withCmd _ s words

theorem State.stepGens_withCmd (s : State) (words : List Word) :
    (s.withCmd words).stepGens = s.stepGens.withCmd words :=
  State.foldl_withCmd _ State.genStep_withCmd _ s words

theorem State.motionBegins_withCmd (s : State) (words : List Word) :
    (s.withCmd words).motionBegins = s.motionBegins.withCmd words := by
  unfold State.motionBegins
  rw [State.ambientOn_withCmd, State.withCmd_ite, ← State.startAll_withCmd]
  rfl

theorem State.fadeInDone_withCmd (s : State) (words : List Word) :
    (s.withCmd words).fadeInDone = s.fadeInDone.withCmd words := by
  unfold State.fadeInDone
  rw [State.withCmd_ite, ← State.startAll_withCmd]
  rfl

theorem State.motionEnds_withCmd (s : State) (words : List Word) :
    (s.withCmd words).motionEnds = s.motionEnds.withCmd words := by
  unfold State.motionEnds
  rw [State.ambientOff_withCmd, State.stopAll_withCmd]
  rfl

theorem State.transition_withCmd (s : State) (words : List Word) :
    (s.withCmd words).transition = s.transition.withCmd words := by
  have hsched : (s.withCmd words).sched = s.sched := rfl
  unfold State.transition
  rw [hsched, State.motionBegins_withCmd, State.fadeInDone_withCmd, State.motionEnds_withCmd]
  cases s.sched <;> simp only [State.withCmd_ite] <;> rfl

theorem State.schedStep_withCmd (s : State) (words : List Word) :
    (s.withCmd words).schedStep = s.schedStep.withCmd words := by
  unfold State.schedStep State.sleepRequest
  rw [State.transition_withCmd, State.withCmd_ite]
  rfl

theorem State.poll_withCmd (s : State) (words : List Word) : (s.withCmd words).poll = s.poll.withCmd words := by
  unfold State.poll
  rw [State.withCmd_ite, State.btnConsume_withCmd, State.motionTick_withCmd, State.schedStep_withCmd,
    State.runZones_withCmd, State.stepGens_withCmd]
  rfl

theorem effect_withCmd (i : Instr) (s : State) (words : List Word) :
    effect i (s.withCmd words) = (effect i s).withCmd words := by
  cases i with
  | motionEdge => exact State.motionEdge_withCmd s.wake words
  | buttonEdge level => exact State.buttonEdge_withCmd s.wake level words
  | poll => exact State.poll_withCmd s words
  | genStep idx => exact congrArg (State.withResult · _) (State.genStep_withCmd s idx.toNat words)
  | zoneRun idx => exact congrArg (State.withResult · _) (State.zoneRun_withCmd s idx.toNat words)
  | motionTick => exact State.motionTick_withCmd s words
  | btnConsume => exact State.btnConsume_withCmd s words
  | schedStep => exact State.schedStep_withCmd s words
  | tick | refresh | reset | status | genStart _ | genStop _ | genIsrun _ | zoneOn _ _ | zoneOff _ _ => rfl

theorem exec_withCmd {i : Instr} {s t : State} (h : exec i s = .next t) (words : List Word) :
    exec i (s.withCmd words) = .next (t.withCmd words) := by
  rw [exec_eq] at h ⊢
  injection h with h
  rw [← h, State.withCmd_ite, ← effect_withCmd]
  rfl

/-- An operation writes no `cmd`: performed with the words it finds put back, it answers the state it answered. -/
theorem exec_cmd {i : Instr} {s t : State} (h : exec i s = .next t) : t.cmd = s.cmd := by
  have hsame := (exec_withCmd h s.cmd).symm.trans h
  injection hsame with hsame
  rw [← hsame]
  rfl

/-! ## A run of encoded operations -/

theorem run_succ_of_step {s t : State} (h : step s = .next t) (k : Nat) :
    Host.Core.run core (k + 1) s = Host.Core.run core k t := by
  have hcore : core.step s = .next t := h
  simp only [Host.Core.run, hcore]

theorem execList_cons_of_exec {i : Instr} {s t : State} (h : exec i s = .next t) (is : List Instr) :
    execList (i :: is) s = execList is t := by
  rw [execList, h]

/-- Settles O11, by induction on the operations: a step takes the word of the first off the stream and performs it, and
what it performs does not depend on the words that follow. -/
theorem encodedStreamRunsAsItsOperations : Obligations.EncodedStreamRunsAsItsOperations := by
  unfold Obligations.EncodedStreamRunsAsItsOperations
  intro ops rest s hwf hops hcmd
  induction ops generalizing s with
  | nil => exact ⟨s, congrArg Host.Outcome.next (State.ext_iff.2 (by simpa using hcmd.symm)), rfl⟩
  | cons i is ih =>
    have hi : i.wf s.cfg.nz s.cfg.ng = true := hops i List.mem_cons_self
    have hstep := step_of_decode_ok hwf hcmd (decode_encode hi)
    obtain ⟨t, ht⟩ : ∃ t, exec i (s.withCmd (is.map encode ++ rest)) = .next t := ⟨_, exec_eq i _⟩
    have hcfg : t.cfg = s.cfg := (exec_cfg ht :)
    have hrest : ∀ j ∈ is, j.wf t.cfg.nz t.cfg.ng = true := fun j hj => hcfg ▸ hops j (List.mem_cons_of_mem i hj)
    obtain ⟨u, hlist, hrun⟩ := ih t (hcfg ▸ hwf) hrest (exec_cmd ht)
    exact ⟨u, (execList_cons_of_exec (exec_withCmd ht rest) is).trans hlist,
      (run_succ_of_step (hstep.trans ht) is.length).trans hrun⟩

/-! ## What writes FRAME and DC (R61, R62) -/

theorem effect_frame {i : Instr} (hpoll : i ≠ .poll) (hreset : i ≠ .reset) (hrun : ∀ idx, i ≠ .zoneRun idx)
    (hstep : ∀ idx, i ≠ .genStep idx) (s : State) : (effect i s).frame = s.frame := by
  cases i with
  | poll => exact absurd rfl hpoll
  | reset => exact absurd rfl hreset
  | zoneRun idx => exact absurd rfl (hrun idx)
  | genStep idx => exact absurd rfl (hstep idx)
  | _ => simp [effect]

theorem effect_dc {i : Instr} (hpoll : i ≠ .poll) (hreset : i ≠ .reset) (hconsume : i ≠ .btnConsume) (s : State) :
    (effect i s).dc = s.dc := by
  cases i with
  | poll => exact absurd rfl hpoll
  | reset => exact absurd rfl hreset
  | btnConsume => exact absurd rfl hconsume
  | _ => simp [effect]

/-! ## A channel of no zone (R63) -/

/-- A loop keeps an entry of FRAME when each of its rounds keeps it and the configuration. -/
theorem State.memRead_foldl_keeps (s : State) (ch : Nat) (round : State → Nat → State) (l : List Nat)
    (hcfg : ∀ t b, (round t b).cfg = t.cfg)
    (hread : ∀ t : State, t.cfg = s.cfg → ∀ b ∈ l, (round t b).memRead .frame ch = t.memRead .frame ch) :
    (l.foldl round s).memRead .frame ch = s.memRead .frame ch :=
  (foldl_invariant (fun t : State => t.cfg = s.cfg ∧ t.memRead .frame ch = s.memRead .frame ch) round l s
    (fun t b hb ht => ⟨(hcfg t b).trans ht.1, (hread t ht.1 b hb).trans ht.2⟩) ⟨rfl, rfl⟩).2

theorem State.memRead_commit_other (s : State) (z : Nat) (v : Half) {ch : Nat}
    (hch : ch ∉ (s.cfg.zoneCfg z).channels) : (s.commit z v).memRead .frame ch = s.memRead .frame ch :=
  State.memRead_foldl_keeps s ch _ _ (fun _ _ => rfl) fun t _ b hb =>
    State.memRead_memWrite_other t .frame b ch _ fun heq => hch (heq ▸ hb)

theorem State.memRead_zoneRun_other (s : State) (z : Nat) {ch : Nat} (hch : ch ∉ (s.cfg.zoneCfg z).channels) :
    (s.zoneRun z).memRead .frame ch = s.memRead .frame ch := by
  unfold State.zoneRun
  dsimp only
  split
  · exact State.memRead_commit_other _ z _ hch
  · rfl

section
variable {s : State} {ch : Nat} (hch : ∀ z, ch ∉ (s.cfg.zoneCfg z).channels)
include hch

theorem State.memRead_genStep_unzoned (g : Nat) : (s.genStep g).memRead .frame ch = s.memRead .frame ch :=
  State.memRead_foldl_keeps (s.setGen g ((s.gen g).settle (s.genOutput g).1)) ch _ _
    (fun t z => State.commit_cfg t z _)
    fun t ht z _ => State.memRead_commit_other t z _ (ht ▸ hch z)

theorem State.memRead_runZones_unzoned : s.runZones.memRead .frame ch = s.memRead .frame ch :=
  State.memRead_foldl_keeps s ch _ _ State.zoneRun_cfg fun t ht z _ => State.memRead_zoneRun_other t z (ht ▸ hch z)

theorem State.memRead_stepGens_unzoned : s.stepGens.memRead .frame ch = s.memRead .frame ch :=
  State.memRead_foldl_keeps s ch _ _ State.genStep_cfg fun _ ht g _ => State.memRead_genStep_unzoned (ht ▸ hch) g

theorem State.memRead_poll_unzoned : s.poll.memRead .frame ch = s.memRead .frame ch := by
  unfold State.poll
  split
  · rfl
  · rw [State.memRead_stepGens_unzoned (by simpa using hch), State.memRead_runZones_unzoned (by simpa using hch)]
    exact State.memRead_congr _ _ .frame (by simp) (by simp [State.space]) ch

/-- Every operation but RESET keeps the entry of a channel of no zone. -/
theorem effect_memRead_unzoned {i : Instr} (hreset : i ≠ .reset) :
    (effect i s).memRead .frame ch = s.memRead .frame ch := by
  cases i with
  | poll => exact State.memRead_poll_unzoned hch
  | zoneRun idx => exact State.memRead_zoneRun_other s idx.toNat (hch _)
  | genStep idx => exact State.memRead_genStep_unzoned hch idx.toNat
  | reset => exact absurd rfl hreset
  | _ =>
    have hframe := effect_frame (by simp) hreset (by simp) (by simp) s
    exact State.memRead_congr _ _ .frame (effect_cfg _ s) hframe ch

end

/-- Settles O60: the effect of an operation on each space, its effect on a channel of no zone, and a refusal, which
writes neither space. -/
theorem onlyCommitsWriteTheSpaces : Obligations.OnlyCommitsWriteTheSpaces := by
  unfold Obligations.OnlyCommitsWriteTheSpaces
  intro i s t hexec _
  rcases exec_cases hexec with ⟨-, rfl⟩ | ⟨hwf, rfl⟩
  · refine ⟨?_, ?_, fun ch hch => ?_⟩
    · by_contra! hno
      obtain ⟨hframe, hpoll, hreset, hrun, hstep⟩ := hno
      exact hframe (effect_frame hpoll hreset hrun hstep s.beginOp)
    · by_contra! hno
      obtain ⟨hdc, hpoll, hreset, hconsume⟩ := hno
      exact hdc (effect_dc hpoll hreset hconsume s.beginOp)
    · split
      · rename_i hreset
        subst hreset
        exact State.memRead_resetOf s.cfg s.cmd .frame ch
      · rename_i hreset
        exact effect_memRead_unzoned (s := s.beginOp) (fun z hz => hch z (Config.lt_nz_of_mem hz) hz) hreset
  · have hreset : i ≠ .reset := by rintro rfl; cases hwf
    exact ⟨.inl rfl, .inl rfl, fun ch _ => (if_neg hreset).symm⟩

/-! ## Sizes and form under every operation (R28, R29, R60, R66) -/

@[simp] theorem State.motionBegins_zones_length (s : State) : s.motionBegins.zones.length = s.zones.length := by
  unfold State.motionBegins
  split <;> simp [State.ambientOn_length]

@[simp] theorem State.motionBegins_gens_length (s : State) : s.motionBegins.gens.length = s.gens.length := by
  unfold State.motionBegins
  split <;> simp [State.startAll_length]

@[simp] theorem State.fadeInDone_gens_length (s : State) : s.fadeInDone.gens.length = s.gens.length := by
  unfold State.fadeInDone
  split <;> simp [State.startAll_length]

@[simp] theorem State.motionEnds_zones_length (s : State) : s.motionEnds.zones.length = s.zones.length := by
  simp [State.motionEnds, State.ambientOff_length]

@[simp] theorem State.motionEnds_gens_length (s : State) : s.motionEnds.gens.length = s.gens.length := by
  simp [State.motionEnds, State.stopAll_length]

@[simp] theorem State.schedStep_zones_length (s : State) : s.schedStep.zones.length = s.zones.length := by
  unfold State.schedStep State.transition
  rw [State.sleepRequest_zones]
  (repeat' split) <;> simp

@[simp] theorem State.schedStep_gens_length (s : State) : s.schedStep.gens.length = s.gens.length := by
  unfold State.schedStep State.transition
  rw [State.sleepRequest_gens]
  (repeat' split) <;> simp

@[simp] theorem State.poll_zones_length (s : State) : s.poll.zones.length = s.zones.length := by
  unfold State.poll
  split
  · rfl
  · simp [State.runZones_length]

@[simp] theorem State.poll_gens_length (s : State) : s.poll.gens.length = s.gens.length := by
  unfold State.poll
  split
  · rfl
  · simp [State.stepGens_length]

theorem effect_zones_length {i : Instr} (hreset : i ≠ .reset) (s : State) :
    (effect i s).zones.length = s.zones.length := by
  cases i with
  | reset => exact absurd rfl hreset
  | zoneOn idx imm => exact State.zoneOn_length s idx.toNat imm
  | zoneOff idx imm => exact State.zoneOff_length s idx.toNat imm
  | zoneRun idx => exact State.zoneRun_length s idx.toNat
  | _ => simp [effect]

theorem effect_gens_length {i : Instr} (hreset : i ≠ .reset) (s : State) :
    (effect i s).gens.length = s.gens.length := by
  cases i with
  | reset => exact absurd rfl hreset
  | genStart idx => exact State.genStart_length s idx.toNat
  | genStop idx => exact State.genStop_length s idx.toNat
  | genStep idx => exact State.genStep_length s idx.toNat
  | _ => simp [effect]

theorem effect_shaped (i : Instr) {s : State} (h : s.shaped) : (effect i s).shaped := by
  by_cases hreset : i = .reset
  · subst hreset
    exact State.shaped_resetOf s.cfg s.cmd
  · obtain ⟨hzones, hgens⟩ := h
    exact ⟨by rw [effect_zones_length hreset, effect_cfg, hzones],
      by rw [effect_gens_length hreset, effect_cfg, hgens]⟩

theorem State.shortAction_spaceOk {s : State} {sp : Space} (h : s.spaceOk sp) : s.shortAction.spaceOk sp :=
  State.foldl_write_spaceOk { s with halfBrightness := !s.halfBrightness } .dc sp
    (fun u ch => if u.halfBrightness then u.cfg.dcHalfAt ch else u.cfg.dcFullAt ch) (List.range s.cfg.n)
    (fun _ hch => List.mem_range.1 hch) h

theorem State.btnConsume_spaceOk {s : State} {sp : Space} (h : s.spaceOk sp) : s.btnConsume.spaceOk sp := by
  unfold State.btnConsume
  split
  · exact h
  · exact State.shortAction_spaceOk h
  · exact h
  · exact h

theorem State.poll_spaceOk {s : State} {sp : Space} (hwf : s.cfg.wf) (h : s.spaceOk sp) : s.poll.spaceOk sp := by
  unfold State.poll
  split
  · exact h
  · have hsched : s.btnConsume.motionTick.schedStep.spaceOk sp :=
      State.spaceOk_congr (by simp) (by cases sp <;> simp [State.space]) (State.btnConsume_spaceOk h)
    exact State.stepGens_spaceOk _ sp (by simpa using hwf) (State.runZones_spaceOk _ sp (by simpa using hwf) hsched)

theorem effect_spaceOk (i : Instr) {s : State} {sp : Space} (hwf : s.cfg.wf) (h : s.spaceOk sp) :
    (effect i s).spaceOk sp := by
  cases i with
  | poll => exact State.poll_spaceOk hwf h
  | reset => cases sp <;> exact ⟨Memory.nil_wf _, by simp [effect, State.space]⟩
  | btnConsume => exact State.btnConsume_spaceOk h
  | zoneRun idx => exact State.zoneRun_spaceOk s idx.toNat sp hwf h
  | genStep idx => exact State.genStep_spaceOk s idx.toNat sp hwf h
  | _ => exact State.spaceOk_congr (effect_cfg _ s) (by cases sp <;> simp [effect, State.space]) h

/-- R60, R66, R28, R29 for one operation, performed or refused. -/
theorem exec_keeps_form {i : Instr} {s t : State} (hwf : s.cfg.wf) (hframe : s.spaceOk .frame) (hdc : s.spaceOk .dc)
    (hshape : s.shaped) (h : exec i s = .next t) : t.spaceOk .frame ∧ t.spaceOk .dc ∧ t.shaped := by
  rcases exec_cases h with ⟨-, rfl⟩ | ⟨-, rfl⟩
  · exact ⟨effect_spaceOk i (s := s.beginOp) hwf hframe, effect_spaceOk i (s := s.beginOp) hwf hdc,
      effect_shaped i (s := s.beginOp) hshape⟩
  · exact ⟨hframe, hdc, hshape⟩

/-- Settles O16: an idle step and a refusal write neither a space nor a file, and every operation keeps both. -/
theorem stepKeepsMemoryFormAndFileSizes : Obligations.StepKeepsMemoryFormAndFileSizes := by
  unfold Obligations.StepKeepsMemoryFormAndFileSizes
  intro s t hwf hframe hdc hshape hstep
  rcases step_cases hstep with ⟨-, rfl⟩ | ⟨w, rest, i, -, -, hexec⟩ | ⟨w, rest, r, -, -, rfl⟩
  · exact ⟨hframe, hdc, hshape⟩
  · exact exec_keeps_form (s := { s with cmd := rest }) hwf hframe hdc hshape hexec
  · exact ⟨hframe, hdc, hshape⟩

/-! ## What the interrupt context writes (R72, R271) -/

/-- TICK writes `elapsed` alone in a zone (R210). -/
theorem Zone.tick_eq (r : Zone) : r.tick = { r with elapsed := r.tick.elapsed } := by
  unfold Zone.tick
  split <;> rfl

/-- TICK writes `acc` alone in a generator (R210). -/
theorem Gen.tick_eq (gc : GenCfg) (r : Gen) : r.tick gc = { r with acc := (r.tick gc).acc } := by
  unfold Gen.tick
  split <;> rfl

/-- TICK on a zone, beyond the file too, where the registers of reset stand still (log 14). -/
theorem State.tick_zone_all (s : State) (z : Nat) : s.tick.zone z = (s.zone z).tick := by
  by_cases hz : z < s.zones.length
  · exact State.tick_zone s z hz
  · simp [State.zone, List.getD_eq_getElem?_getD, hz, Zone.tick, Zone.zero]

/-- TICK on a generator, beyond the file too, where the registers of reset stand still (log 14). -/
theorem State.tick_gen_all (s : State) (g : Nat) : s.tick.gen g = (s.gen g).tick (s.cfg.genCfg g) := by
  by_cases hg : g < s.gens.length
  · exact State.tick_gen s g hg
  · simp [State.gen, List.getD_eq_getElem?_getD, hg, Gen.tick, Gen.zero]

theorem State.tick_zone_frame (s : State) (z : Nat) :
    s.tick.zone z = { s.zone z with elapsed := (s.tick.zone z).elapsed } := by
  rw [State.tick_zone_all]
  exact Zone.tick_eq (s.zone z)

theorem State.tick_gen_frame (s : State) (g : Nat) :
    s.tick.gen g = { s.gen g with acc := (s.tick.gen g).acc } := by
  rw [State.tick_gen_all]
  exact Gen.tick_eq (s.cfg.genCfg g) (s.gen g)

/-- No interrupt-context operation has an index, so none is refused (R81, R84). -/
theorem exec_of_interrupt {i : Instr} (hi : i.context = .interrupt) (s : State) :
    exec i s = .next (effect i s.beginOp) := by
  cases i with
  | tick | refresh | motionEdge | buttonEdge _ => rfl
  | _ => cases hi

/-- Settles O57: each of the four operations wakes the block and has its own part, which writes none of these; only
TICK writes the files. -/
theorem interruptsWriteOnlyFlagsAndCounters : Obligations.InterruptsWriteOnlyFlagsAndCounters := by
  unfold Obligations.InterruptsWriteOnlyFlagsAndCounters
  intro i s t hi hexec
  rw [exec_of_interrupt hi] at hexec
  injection hexec with hexec
  subst hexec
  cases i with
  | tick =>
    exact ⟨rfl, rfl, rfl, rfl, rfl, rfl, rfl, rfl, State.tick_zone_frame s.beginOp.wake,
      State.tick_gen_frame s.beginOp.wake⟩
  | refresh | motionEdge | buttonEdge _ => simp [effect, State.zone, State.gen]
  | _ => cases hi

/-! ## What the main loop leaves to the interrupt side (R72) -/

/-- From `s` to `t` no register that the interrupt side writes has moved, but that motion may have been ended. -/
structure State.LeavesInterruptSide (s t : State) : Prop where
  now : t.now = s.now
  lastLevel : t.lastLevel = s.lastLevel
  depressed : t.depressed = s.depressed
  shortTimer : t.shortTimer = s.shortTimer
  longTimer : t.longTimer = s.longTimer
  frameOut : t.frameOut = s.frameOut
  frameValid : t.frameValid = s.frameValid
  inMotion : t.inMotion = s.inMotion ∨ t.inMotion = false
  motionTimer : t.motionTimer = s.motionTimer ∨ t.motionTimer = 0

/-- A register that each of two parts leaves or clears, their sequence leaves or clears. -/
theorem kept_or_cleared_trans {α : Type} {a b c d : α} (hab : b = a ∨ b = d) (hbc : c = b ∨ c = d) :
    c = a ∨ c = d := by
  rcases hbc with rfl | rfl
  · exact hab
  · exact .inr rfl

theorem State.LeavesInterruptSide.trans {s t u : State} (hst : s.LeavesInterruptSide t)
    (htu : t.LeavesInterruptSide u) : s.LeavesInterruptSide u where
  now := htu.now.trans hst.now
  lastLevel := htu.lastLevel.trans hst.lastLevel
  depressed := htu.depressed.trans hst.depressed
  shortTimer := htu.shortTimer.trans hst.shortTimer
  longTimer := htu.longTimer.trans hst.longTimer
  frameOut := htu.frameOut.trans hst.frameOut
  frameValid := htu.frameValid.trans hst.frameValid
  inMotion := kept_or_cleared_trans hst.inMotion htu.inMotion
  motionTimer := kept_or_cleared_trans hst.motionTimer htu.motionTimer

/-- BTN_CONSUME ends motion on a Long press (R165). -/
theorem State.btnConsume_leavesInterruptSide (s : State) : s.LeavesInterruptSide s.btnConsume := by
  constructor
  case inMotion | motionTimer => unfold State.btnConsume; split <;> simp
  all_goals simp

/-- MOTION_TICK ends motion when the hold time is over (R151). -/
theorem State.motionTick_leavesInterruptSide (s : State) : s.LeavesInterruptSide s.motionTick := by
  constructor
  case inMotion => unfold State.motionTick; split <;> simp
  all_goals simp

/-- The scheduler and the evaluation of a POLL touch none of these registers (R214). -/
theorem State.evaluate_leavesInterruptSide (s : State) :
    s.LeavesInterruptSide s.schedStep.runZones.stepGens := by
  constructor <;> simp

theorem State.poll_leavesInterruptSide (s : State) : s.LeavesInterruptSide s.poll := by
  unfold State.poll
  split
  · constructor <;> simp
  · exact ((State.btnConsume_leavesInterruptSide s).trans (State.motionTick_leavesInterruptSide _)).trans
      (State.evaluate_leavesInterruptSide _)

theorem effect_leavesInterruptSide {i : Instr} (hi : i.context = .mainLoop) (s : State) :
    s.LeavesInterruptSide (effect i s) := by
  cases i with
  | tick | refresh | motionEdge | buttonEdge _ | reset | status => cases hi
  | poll => exact State.poll_leavesInterruptSide s
  | motionTick => exact State.motionTick_leavesInterruptSide s
  | btnConsume => exact State.btnConsume_leavesInterruptSide s
  | _ => constructor <;> simp [effect]

theorem State.raiseRefused_leavesInterruptSide (s : State) : s.beginOp.LeavesInterruptSide s.raiseRefused := by
  constructor <;> simp

/-- Settles O58: performed or refused, the operation leaves the interrupt side after `beginOp`, which pulls
`frame_valid` low. -/
theorem mainLoopLeavesInterruptRegisters : Obligations.MainLoopLeavesInterruptRegisters := by
  unfold Obligations.MainLoopLeavesInterruptRegisters
  intro i s t hi hexec
  have hleaves : s.beginOp.LeavesInterruptSide t := by
    rcases exec_cases hexec with ⟨-, rfl⟩ | ⟨-, rfl⟩
    · exact effect_leavesInterruptSide hi s.beginOp
    · exact State.raiseRefused_leavesInterruptSide s
  obtain ⟨hnow, hlevel, hdepressed, hshort, hlong, hout, hvalid, hmotion, htimer⟩ := hleaves
  exact ⟨hnow, hlevel, hdepressed, hshort, hlong, hout, hvalid, hmotion, htimer⟩

end Sys2Proof.Machine
end

section
/-! Proofs/Encoding.lean: the mask of a row as its opcode and the must-be-0 bits of its format, the opcode map and the
decoder as conditions on the fields of a word, and the statements of 30_encoding.md that follow. -/

namespace Sys2Proof.Machine

/-! ## The mask and the match of a row (R83) -/

/-- The mask of a row covers the opcode and the must-be-0 bits of the row's format. -/
theorem maskWord_extends_reserved (i : Instr) :
    ∃ idx imm, i.format.reserved = fieldsWord 0 idx imm ∧ i.maskWord = fieldsWord 0xFF idx imm := by
  obtain ⟨hresE, hresL, hresI, hresD⟩ := reserved_fields
  obtain ⟨hmaskE, hmaskL, hmaskI, hmaskD⟩ := Laws.mask_fields
  cases i with
  | buttonEdge level => exact ⟨_, _, hresL, hmaskL⟩
  | genStart | genStop | genIsrun | genStep | zoneRun => exact ⟨_, _, hresI, hmaskI⟩
  | zoneOn | zoneOff => exact ⟨_, _, hresD, hmaskD⟩
  | _ => exact ⟨_, _, hresE, hmaskE⟩

theorem matchWord_eq (i : Instr) : i.matchWord = fieldsWord (opField (encode i)) 0 0 := by
  cases i <;> simp only [encode, opField_fieldsWord] <;> rfl

theorem and_maskWord_eq_iff (i : Instr) (w : Word) :
    w &&& i.maskWord = i.matchWord ↔ opField w = opField (encode i) ∧ w &&& i.format.reserved = 0 := by
  obtain ⟨idx, imm, hres, hmask⟩ := maskWord_extends_reserved i
  rw [hres, hmask, matchWord_eq, ← fieldsWord_fields w, fieldsWord_and, fieldsWord_and, fieldsWord_inj,
    fieldsWord_eq_zero, Laws.byte_masked, opField_fieldsWord]
  simp

/-! ## The must-be-0 bits in the fields of a word (R80) -/

/-- Only bit 0 of a half-word is left out of the mask 0xFFFE. -/
theorem half_and_eq_zero_iff (imm : Half) : imm &&& 0xFFFE = 0 ↔ imm.toNat ≤ 1 := by
  have hshift : imm &&& (0xFFFE : Half) = imm >>> 1 <<< 1 := by
    apply BitVec.eq_of_getLsbD_eq
    intro i hi
    interval_cases i <;> simp
  rw [hshift, BitVec.toNat_eq]
  simp only [BitVec.toNat_shiftLeft, BitVec.toNat_ushiftRight, Nat.shiftLeft_eq, Nat.shiftRight_eq_div_pow,
    BitVec.ofNat_eq_ofNat, BitVec.toNat_ofNat]
  omega

/-- The one bit that format L leaves free holds the whole immediate. -/
theorem half_eq_bit_of_le_one {imm : Half} (h : imm.toNat ≤ 1) :
    imm = (BitVec.ofBool (imm.getLsbD 0)).setWidth 16 := by
  have hcases : imm = 0 ∨ imm = 1 := by bv_omega
  rcases hcases with rfl | rfl <;> decide

theorem and_fields_eq_zero_iff (w : Word) (idx : BitVec 8) (imm : Half) :
    w &&& fieldsWord 0 idx imm = 0 ↔ idxField w &&& idx = 0 ∧ immField w &&& imm = 0 := by
  nth_rw 1 [← fieldsWord_fields w]
  rw [fieldsWord_and, fieldsWord_eq_zero]
  simp

theorem and_reserved_E_iff (w : Word) : w &&& Format.E.reserved = 0 ↔ idxField w = 0 ∧ immField w = 0 := by
  obtain ⟨hres, -⟩ := reserved_fields
  have himm : immField w &&& 0xFFFF = immField w := BitVec.and_allOnes
  rw [hres, and_fields_eq_zero_iff, Laws.byte_masked, himm]

theorem and_reserved_L_iff (w : Word) :
    w &&& Format.L.reserved = 0 ↔ idxField w = 0 ∧ (immField w).toNat ≤ 1 := by
  obtain ⟨-, hres, -⟩ := reserved_fields
  rw [hres, and_fields_eq_zero_iff, Laws.byte_masked, half_and_eq_zero_iff]

theorem and_reserved_I_iff (w : Word) : w &&& Format.I.reserved = 0 ↔ immField w = 0 := by
  obtain ⟨-, -, hres, -⟩ := reserved_fields
  have himm : immField w &&& 0xFFFF = immField w := BitVec.and_allOnes
  rw [hres, and_fields_eq_zero_iff, himm]
  simp

theorem and_reserved_D (w : Word) : w &&& Format.D.reserved = 0 := BitVec.and_zero

/-! ## The opcode map (R81, R83) -/

/-- The opcode map reads the operation whose opcode the word has, with the fields of the word as its operands. -/
theorem instrOfOpcode_eq_some_iff (w : Word) (i : Instr) :
    instrOfOpcode w = some i ↔ opField w = opField (encode i) ∧ i.operandsOf w = true := by
  constructor
  · intro h
    unfold instrOfOpcode at h
    split at h
    case h_18 => cases h
    all_goals
      next hop =>
      cases h
      simp [encode, Instr.operandsOf, BitVec.toNat_eq, hop]
  · rintro ⟨hop, hoperands⟩
    cases i <;> simp_all [instrOfOpcode, encode, Instr.operandsOf]

/-! ## The word of a decoded operation (R80, R84) -/

theorem levelField_eq (w : Word) : levelField w = (immField w).getLsbD 0 := by
  rw [← fieldsWord_fields w, levelField_fieldsWord, immField_fieldsWord]

/-- What the opcode and the operands leave open of a word, the must-be-0 bits fix. -/
theorem encode_eq_of_fields {w : Word} {i : Instr} (hop : opField w = opField (encode i))
    (hoperands : i.operandsOf w = true) (hres : w &&& i.format.reserved = 0) : encode i = w := by
  rw [← fieldsWord_fields w, hop]
  cases i with
  | buttonEdge level =>
    obtain ⟨hidx, himm⟩ := (and_reserved_L_iff w).1 hres
    have hlevel : level = (immField w).getLsbD 0 := by simpa [Instr.operandsOf, levelField_eq] using hoperands
    rw [hidx, half_eq_bit_of_le_one himm, ← hlevel, encode, opField_fieldsWord]
  | genStart | genStop | genIsrun | genStep | zoneRun =>
    have himm := (and_reserved_I_iff w).1 hres
    simp_all [Instr.operandsOf, encode]
  | zoneOn | zoneOff => simp_all [Instr.operandsOf, encode]
  | _ =>
    obtain ⟨hidx, himm⟩ := (and_reserved_E_iff w).1 hres
    simp [hidx, himm, encode]

/-! ## The answers of the decoder (R83, R84, R231) -/

theorem decode_of_opcode_none {nz ng : Nat} {w : Word} (h : instrOfOpcode w = none) :
    decode nz ng w = .error .badOpcode := by
  simp only [decode, h]

theorem decode_of_opcode_some {nz ng : Nat} {w : Word} {i : Instr} (h : instrOfOpcode w = some i) :
    decode nz ng w =
      if w &&& i.format.reserved ≠ 0 then .error .reservedField
      else if i.wf nz ng = true then .ok i else .error .badIndex := by
  simp only [decode, h]

theorem decode_eq_ok_iff {nz ng : Nat} {w : Word} {i : Instr} :
    decode nz ng w = .ok i ↔
      instrOfOpcode w = some i ∧ w &&& i.format.reserved = 0 ∧ i.wf nz ng = true := by
  cases h : instrOfOpcode w with
  | none => simp [decode_of_opcode_none h]
  | some j =>
    rw [decode_of_opcode_some h]
    constructor
    · intro hdec
      split_ifs at hdec with hres hwf
      cases hdec
      exact ⟨rfl, not_not.1 hres, hwf⟩
    · rintro ⟨hij, hres, hwf⟩
      cases hij
      rw [if_neg (not_not_intro hres), if_pos hwf]

/-- A word with an assigned opcode is refused for its reserved bits first, and for its index after them. -/
theorem refusals_of_opcode_some {nz ng : Nat} {w : Word} {i : Instr} (h : instrOfOpcode w = some i) :
    decode nz ng w ≠ .error .badOpcode ∧
    (decode nz ng w = .error .reservedField ↔ w &&& i.format.reserved ≠ 0) ∧
    (decode nz ng w = .error .badIndex ↔ w &&& i.format.reserved = 0 ∧ i.wf nz ng = false) ∧
    decode nz ng w ≠ .error .truncated := by
  rw [decode_of_opcode_some h]
  split_ifs with hres hwf <;> simp_all

/-! ## The opcodes of each format (R80, R83) -/

/-- The opcodes of format E. -/
def opcodesE : List Nat := [0x01, 0x02, 0x03, 0x05, 0x06, 0x07, 0x30, 0x40, 0x50]

/-- The opcodes of format I whose index names a generator. -/
def opcodesGen : List Nat := [0x10, 0x11, 0x12, 0x13]

/-- The opcodes of format D. -/
def opcodesD : List Nat := [0x20, 0x21]

theorem opcode_of_format (i : Instr) :
    ((opField (encode i)).toNat ∈ opcodesE ↔ i.format = .E) ∧
    ((opField (encode i)).toNat = 0x04 ↔ i.format = .L) ∧
    ((opField (encode i)).toNat ∈ opcodesGen ∨ (opField (encode i)).toNat = 0x22 ↔ i.format = .I) ∧
    ((opField (encode i)).toNat ∈ opcodesD ↔ i.format = .D) := by
  cases i <;> simp [encode, Instr.format, opcodesE, opcodesGen, opcodesD]

theorem opcode_of_none {w : Word} (h : instrOfOpcode w = none) :
    (opField w).toNat ∉ opcodesE ∧ (opField w).toNat ≠ 0x04 ∧ (opField w).toNat ∉ opcodesGen ∧
    (opField w).toNat ∉ opcodesD ∧ (opField w).toNat ≠ 0x22 := by
  unfold instrOfOpcode at h
  split at h
  case h_18 => simp_all [opcodesE, opcodesGen, opcodesD]
  all_goals cases h

/-- R81, R84: the generator operations have their index below NG, the zone operations below NZ. -/
theorem wf_eq_false_iff {nz ng : Nat} {w : Word} {i : Instr} (h : i.operandsOf w = true) :
    i.wf nz ng = false ↔
      ((opField (encode i)).toNat ∈ opcodesGen ∧ ng ≤ (idxField w).toNat) ∨
      (((opField (encode i)).toNat ∈ opcodesD ∨ (opField (encode i)).toNat = 0x22) ∧ nz ≤ (idxField w).toNat) := by
  cases i <;> simp_all [Instr.wf, Instr.operandsOf, encode, opcodesGen, opcodesD]

/-- R80: which bits of a word break its format. -/
theorem and_reserved_ne_zero_iff (w : Word) (f : Format) :
    w &&& f.reserved ≠ 0 ↔
      (f = .E ∧ ((idxField w).toNat ≠ 0 ∨ (immField w).toNat ≠ 0)) ∨
      (f = .L ∧ ((idxField w).toNat ≠ 0 ∨ 1 < (immField w).toNat)) ∨
      (f = .I ∧ (immField w).toNat ≠ 0) := by
  have hidx : idxField w = 0 ↔ (idxField w).toNat = 0 := BitVec.toNat_eq
  have himm : immField w = 0 ↔ (immField w).toNat = 0 := BitVec.toNat_eq
  cases f with
  | E => rw [ne_eq, and_reserved_E_iff, hidx, himm, not_and_or]; simp
  | L => rw [ne_eq, and_reserved_L_iff, hidx, not_and_or, not_le]; simp
  | I => rw [ne_eq, and_reserved_I_iff, himm]; simp
  | D => simp [and_reserved_D]

/-- R84, R231: an operation out of range is refused. -/
theorem exec_of_wf_eq_false {i : Instr} {s : State} (h : i.wf s.cfg.nz s.cfg.ng = false) :
    exec i s = .next s.raiseRefused := by
  rw [exec_eq, if_neg (by simp [h])]

/-! ## The statements -/

/-- Settles O1: the opcode map inverts `encode`, whose words have their must-be-0 bits 0. -/
theorem decodeReadsBackEncode : Obligations.DecodeReadsBackEncode := by
  unfold Obligations.DecodeReadsBackEncode
  intro nz ng i hwf
  exact decode_encode hwf

/-- Settles O2: opcode, operands and must-be-0 bits leave one word. -/
theorem encodeReadsBackDecode : Obligations.EncodeReadsBackDecode := by
  unfold Obligations.EncodeReadsBackDecode
  intro nz ng w i hdec
  obtain ⟨hi, hres, hwf⟩ := decode_eq_ok_iff.1 hdec
  obtain ⟨hop, hoperands⟩ := (instrOfOpcode_eq_some_iff w i).1 hi
  exact ⟨encode_eq_of_fields hop hoperands hres, hwf⟩

/-- Settles O3: to agree with the match under the mask is to have the opcode and no reserved bit. -/
theorem wordIsOperationOfItsRow : Obligations.WordIsOperationOfItsRow := by
  unfold Obligations.WordIsOperationOfItsRow
  intro nz ng w i
  rw [decode_eq_ok_iff, instrOfOpcode_eq_some_iff, and_maskWord_eq_iff]
  tauto

/-- Settles O4: an unassigned opcode is in no format; with an assigned one the format says which bits are reserved
and the operation says which index is out of range. -/
theorem refusalReasonsInOrder : Obligations.RefusalReasonsInOrder := by
  unfold Obligations.RefusalReasonsInOrder
  intro nz ng w op idx low formatE formatIGen formatD assigned reserved outOfRange
  cases h : instrOfOpcode w with
  | none =>
    obtain ⟨hE, hL, hGen, hD, hRun⟩ := opcode_of_none h
    have hassigned : ¬assigned := by
      rintro (hop | hop | hop | hop | hop)
      exacts [hE hop, hL hop, hGen hop, hD hop, hRun hop]
    have hreserved : ¬reserved := by
      rintro (⟨hop, -⟩ | ⟨hop, -⟩ | ⟨hop | hop, -⟩)
      exacts [hE hop, hL hop, hGen hop, hRun hop]
    have houtOfRange : ¬outOfRange := by
      rintro (⟨hop, -⟩ | ⟨hop | hop, -⟩)
      exacts [hGen hop, hD hop, hRun hop]
    rw [decode_of_opcode_none h]
    exact ⟨iff_of_true rfl hassigned, iff_of_false nofun hreserved,
      iff_of_false nofun fun hbad => houtOfRange hbad.2, nofun⟩
  | some i =>
    obtain ⟨hop, hoperands⟩ := (instrOfOpcode_eq_some_iff w i).1 h
    obtain ⟨hE, hL, hI, hD⟩ := opcode_of_format i
    rw [← hop] at hE hL hI hD
    have hassigned : assigned := by
      cases hformat : i.format with
      | E => exact .inl (hE.2 hformat)
      | L => exact .inr (.inl (hL.2 hformat))
      | I => exact (hI.2 hformat).elim (fun hgen => .inr (.inr (.inl hgen))) fun hrun => .inr (.inr (.inr (.inr hrun)))
      | D => exact .inr (.inr (.inr (.inl (hD.2 hformat))))
    have hreserved : w &&& i.format.reserved ≠ 0 ↔ reserved := by
      rw [and_reserved_ne_zero_iff, ← hE, ← hL, ← hI]
      rfl
    have houtOfRange : i.wf nz ng = false ↔ outOfRange := by
      rw [wf_eq_false_iff hoperands, ← hop]
      rfl
    obtain ⟨hbadOpcode, hreservedField, hbadIndex, htruncated⟩ := refusals_of_opcode_some (nz := nz) (ng := ng) h
    exact ⟨iff_of_false hbadOpcode (not_not_intro hassigned), hreservedField.trans hreserved,
      hbadIndex.trans (and_congr (by rw [← hreserved, not_not]) houtOfRange), htruncated⟩

/-- Settles O5: the decodings are the round trip on the seven words, the refusals run the decoder. -/
theorem workedEncodingsDecode : Obligations.WorkedEncodingsDecode := by
  unfold Obligations.WorkedEncodingsDecode
  refine ⟨rfl, rfl, rfl, rfl, rfl, rfl, rfl, ?_⟩
  exact ⟨decode_encode (i := .tick) rfl, decode_encode (i := .poll) rfl, decode_encode (i := .genStart 2) rfl,
    decode_encode (i := .genStep 2) rfl, decode_encode (i := .zoneOn 0 500) rfl, decode_encode (i := .zoneOff 3 0) rfl,
    decode_encode (i := .zoneRun 0) rfl, rfl, rfl, rfl, rfl⟩

/-- Settles O7: the state after the refusal is `State.raiseRefused`, written out. -/
theorem refusedWordChangesOnlyItsPorts : Obligations.RefusedWordChangesOnlyItsPorts := by
  unfold Obligations.RefusedWordChangesOnlyItsPorts
  intro s w rest r hwf hcmd hdec
  exact step_of_decode_error hwf hcmd hdec

/-- Settles O12: each of the seven operations is out of range by `Instr.wf`. -/
theorem outOfRangeIndexIsRefused : Obligations.OutOfRangeIndexIsRefused := by
  unfold Obligations.OutOfRangeIndexIsRefused
  intro s idx imm refused
  constructor
  · intro hidx
    have hwf : decide (idx.toNat < s.cfg.ng) = false := decide_eq_false (by omega)
    exact ⟨exec_of_wf_eq_false hwf, exec_of_wf_eq_false hwf, exec_of_wf_eq_false hwf, exec_of_wf_eq_false hwf⟩
  · intro hidx
    have hwf : decide (idx.toNat < s.cfg.nz) = false := decide_eq_false (by omega)
    exact ⟨exec_of_wf_eq_false hwf, exec_of_wf_eq_false hwf, exec_of_wf_eq_false hwf⟩

end Sys2Proof.Machine
end

section
/-! Proofs/Generators.lean: the waveforms as functions of the phase, one equation for each case of what an operation and
TICK do to one generator, a run of TICKs, and the statements of 40_waveform_generators.md that follow. -/

namespace Sys2Proof.Machine

/-! ## The triangle (R101) -/

section
variable {a p e e' : Nat}

/-- The rising side holds at the peak too, where both sides give the amplitude. -/
theorem pulseLevel_of_le_up (hp : 2 ≤ p) (he : e ≤ p / 2) : pulseLevel a p e = a * e / (p / 2) := by
  unfold pulseLevel
  split
  · rfl
  · obtain rfl : e = p / 2 := by omega
    rw [Nat.mul_div_cancel _ (by omega), Nat.mul_div_cancel _ (by omega)]

theorem pulseLevel_of_up_le (he : p / 2 ≤ e) : pulseLevel a p e = a * (p - e) / (p - p / 2) := if_neg (by omega)

theorem pulseLevel_zero (hp : 2 ≤ p) : pulseLevel a p 0 = 0 := by simp [pulseLevel_of_le_up hp]

theorem pulseLevel_up (hp : 2 ≤ p) : pulseLevel a p (p / 2) = a := by
  rw [pulseLevel_of_le_up hp le_rfl, Nat.mul_div_cancel _ (by omega)]

theorem pulseLevel_mono (hp : 2 ≤ p) (hee' : e ≤ e') (he' : e' ≤ p / 2) : pulseLevel a p e ≤ pulseLevel a p e' := by
  rw [pulseLevel_of_le_up hp (hee'.trans he'), pulseLevel_of_le_up hp he']
  exact Nat.div_le_div_right (Nat.mul_le_mul_left a hee')

theorem pulseLevel_anti (he : p / 2 ≤ e) (hee' : e ≤ e') : pulseLevel a p e' ≤ pulseLevel a p e := by
  rw [pulseLevel_of_up_le he, pulseLevel_of_up_le (he.trans hee')]
  exact Nat.div_le_div_right (Nat.mul_le_mul_left a (Nat.sub_le_sub_left hee' p))

/-- Both sides climb to the peak. -/
theorem pulseLevel_le (hp : 2 ≤ p) : pulseLevel a p e ≤ a := by
  rcases le_total e (p / 2) with he | he
  · exact (pulseLevel_mono hp he le_rfl).trans_eq (pulseLevel_up hp)
  · exact (pulseLevel_anti le_rfl he).trans_eq (pulseLevel_up hp)

theorem pulseLevel_lt (ha : 1 ≤ a) (hp : 2 ≤ p) (he : e ≠ p / 2) : pulseLevel a p e < a := by
  rcases he.lt_or_gt with he | he
  · rw [pulseLevel_of_le_up hp he.le]
    exact Nat.div_lt_of_lt_mul ((Nat.mul_comm a e).trans_lt ((Nat.mul_lt_mul_right ha).2 he))
  · rw [pulseLevel_of_up_le he.le]
    have hside : p - e < p - p / 2 := by omega
    exact Nat.div_lt_of_lt_mul ((Nat.mul_comm a _).trans_lt ((Nat.mul_lt_mul_right ha).2 hside))

end

/-! ## The waves (R101, R102) -/

theorem GenCfg.two_le_period {gc : GenCfg} (hkind : gc.kind = .pulse) (hwf : gc.wf = true) : 2 ≤ gc.period.toNat := by
  simpa [GenCfg.wf, hkind] using hwf

section
variable {c : Config} {gc : GenCfg} {e : Nat}

theorem wave_pulse_fst (hkind : gc.kind = .pulse) :
    (wave c gc e).1 = BitVec.ofNat 16 (pulseLevel c.maxLevel.toNat gc.period.toNat e) := by
  simp only [wave, hkind]

/-- The triangle's values fit 16 bits, because they do not exceed MAX. -/
theorem wave_pulse_toNat (hkind : gc.kind = .pulse) (hwf : gc.wf = true) :
    (wave c gc e).1.toNat = pulseLevel c.maxLevel.toNat gc.period.toNat e := by
  have hle : pulseLevel c.maxLevel.toNat gc.period.toNat e ≤ c.maxLevel.toNat :=
    pulseLevel_le (GenCfg.two_le_period hkind hwf)
  rw [wave_pulse_fst hkind, BitVec.toNat_ofNat]
  exact Nat.mod_eq_of_lt (hle.trans_lt c.maxLevel.isLt)

theorem wave_pulse_on (hkind : gc.kind = .pulse) : (wave c gc e).2 = true ↔ (wave c gc e).1.toNat ≠ 0 := by
  simp only [wave, hkind, bne_iff_ne, ne_eq, BitVec.toNat_eq]
  rfl

theorem wave_indicator {on minB maxB : Half} (hkind : gc.kind = .indicator on minB maxB) :
    wave c gc e = if e < on.toNat then (maxB, true) else (minB, false) := by
  by_cases he : e < on.toNat <;> simp [wave, hkind, he]

theorem wave_indicator_on {on minB maxB : Half} (hkind : gc.kind = .indicator on minB maxB) :
    (wave c gc e).2 = decide (e < on.toNat) := by
  simp only [wave, hkind]

/-- R102: within the period the second on phase is its last `GD2` ms. -/
theorem doubleOn_iff {p d1 gap d2 : Nat} (hwf : d1 + gap + d2 < p) (he : e < p) :
    doubleOn p d1 gap d2 e = true ↔
      (p - (d1 + gap + d2) ≤ e ∧ e < p - (d1 + gap + d2) + d1) ∨ p - d2 ≤ e := by
  simp only [doubleOn, Bool.or_eq_true, Bool.and_eq_true, decide_eq_true_eq]
  unfold doubleRest
  omega

theorem wave_double {d1 gap d2 minB maxB : Half} (hkind : gc.kind = .double d1 gap d2 minB maxB) :
    wave c gc e =
      if doubleOn gc.period.toNat d1.toNat gap.toNat d2.toNat e = true then (maxB, true) else (minB, false) := by
  simp only [wave, hkind]
  cases doubleOn gc.period.toNat d1.toNat gap.toNat d2.toNat e <;> rfl

theorem wave_double_on {d1 gap d2 minB maxB : Half} (hkind : gc.kind = .double d1 gap d2 minB maxB) :
    (wave c gc e).2 = doubleOn gc.period.toNat d1.toNat gap.toNat d2.toNat e := by
  simp only [wave, hkind]

end

/-- The phases of a period at which a report is given, counted as a set. -/
theorem length_filter_range_eq_card {n : Nat} {on : Nat → Bool} {phases : Finset Nat}
    (h : ∀ e, e ∈ phases ↔ e < n ∧ on e = true) : ((List.range n).filter on).length = phases.card := by
  rw [← List.toFinset_card_of_nodup (List.nodup_range.filter on)]
  congr 1
  ext e
  simp [h]

/-- R108: the two on phases are disjoint, so their lengths add up. -/
theorem length_filter_doubleOn {p d1 gap d2 : Nat} (hwf : d1 + gap + d2 < p) :
    ((List.range p).filter fun e => doubleOn p d1 gap d2 e).length = d1 + d2 := by
  have hdisjoint : Disjoint (Finset.Ico (p - (d1 + gap + d2)) (p - (d1 + gap + d2) + d1)) (Finset.Ico (p - d2) p) :=
    Finset.disjoint_left.2 fun e h₁ h₂ => by
      rw [Finset.mem_Ico] at h₁ h₂
      omega
  rw [length_filter_range_eq_card (phases := (Finset.Ico _ _).disjUnion (Finset.Ico _ _) hdisjoint),
    Finset.card_disjUnion, Nat.card_Ico, Nat.card_Ico]
  · omega
  · intro e
    rw [Finset.mem_disjUnion, Finset.mem_Ico, Finset.mem_Ico]
    constructor
    · intro h
      have he : e < p := by omega
      exact ⟨he, (doubleOn_iff hwf he).2 (by omega)⟩
    · rintro ⟨he, hon⟩
      have := (doubleOn_iff hwf he).1 hon
      omega

/-! ## One generator under the operations (R103, R104, R106) -/

section
variable {c : Config} {gc : GenCfg} {r : Gen}

/-- R109: only a running generator is stopped. -/
theorem Gen.stop_of_not_running (hmode : r.mode ≠ .running) : r.stop c gc = r := by
  unfold Gen.stop
  split
  · exact absurd ‹_› hmode
  all_goals rfl

theorem Gen.stop_at_once (hmode : r.mode = .running) (h : gc.hold = true ∨ gc.kind ≠ .pulse) :
    r.stop c gc = { r with mode := .stopped, acc := 0 } := by
  unfold Gen.stop
  rw [hmode]
  exact if_pos (by simpa using h)

/-- A Pulse caught at level 0 has nothing to fade from. -/
theorem Gen.stop_pulse_of_zero (hmode : r.mode = .running) (hkind : gc.kind = .pulse)
    (hlevel : pulseLevel c.maxLevel.toNat gc.period.toNat (phase gc r) = 0) :
    r.stop c gc = { r with mode := .stopped, acc := 0 } := by
  have hwave : (wave c gc (phase gc r)).1 = 0 := by rw [wave_pulse_fst hkind, hlevel]; rfl
  unfold Gen.stop
  rw [hmode]
  simp only [hwave, if_true, ite_self]

theorem Gen.stop_pulse_of_pos (hmode : r.mode = .running) (hhold : gc.hold = false) (hkind : gc.kind = .pulse)
    (hwf : gc.wf = true) (hlevel : 0 < pulseLevel c.maxLevel.toNat gc.period.toNat (phase gc r)) :
    r.stop c gc = { r with mode := .stopping, acc := 0, fadeFrom := (wave c gc (phase gc r)).1 } := by
  have hwave : (wave c gc (phase gc r)).1 ≠ 0 := fun h => by
    rw [← wave_pulse_toNat hkind hwf, h] at hlevel
    exact absurd hlevel (by decide)
  unfold Gen.stop
  rw [hmode]
  simp only [hhold, hkind, Bool.false_or, bne_self_eq_false, Bool.false_eq_true, if_false, hwave]

theorem Gen.output_of_running (hmode : r.mode = .running) :
    r.output c gc = wave c gc (r.acc.toNat % gc.period.toNat) := by
  unfold Gen.output
  rw [hmode]
  rfl

theorem Gen.output_of_stopping (hmode : r.mode = .stopping) :
    r.output c gc =
      (BitVec.ofNat 16 (stopFade c.maxLevel.toNat gc.period.toNat r.fadeFrom.toNat r.acc.toNat), false) := by
  unfold Gen.output
  rw [hmode]

/-- A stop-fade only falls, so its values fit 16 bits. -/
theorem Gen.output_of_stopping_toNat (hmode : r.mode = .stopping) :
    (r.output c gc).1.toNat = stopFade c.maxLevel.toNat gc.period.toNat r.fadeFrom.toNat r.acc.toNat := by
  rw [Gen.output_of_stopping hmode]
  exact Nat.mod_eq_of_lt ((Nat.sub_le _ _).trans_lt r.fadeFrom.isLt)

/-- R262: the pattern 3 is treated as STOPPED. -/
theorem Gen.output_of_stopped (hmode : r.mode = .stopped ∨ r.mode = .three) :
    r.output c gc = (if gc.hold then r.last else 0, false) := by
  unfold Gen.output
  rcases hmode with hmode | hmode <;> rw [hmode]

theorem Gen.settle_eq (b : Half) :
    r.settle b =
      if r.mode = .stopping ∧ b = 0 then { r with mode := .stopped, acc := 0, last := b } else { r with last := b } := by
  unfold Gen.settle
  split
  · simp [*]
  all_goals simp [*]

/-- A stop-fade settles in the GEN_STEP that emits 0 (R106). -/
theorem Gen.settle_mode_of_stopping {b : Half} (hmode : r.mode = .stopping) :
    (r.settle b).mode = .stopped ↔ b = 0 := by
  rw [Gen.settle_eq]
  split
  · simp [*]
  · rename_i hne
    simpa [hmode] using hne

end

/-! ## One generator under TICKs (R210) -/

section
variable {gc : GenCfg} {r : Gen}

theorem Gen.tick_of_running (hmode : r.mode = .running) :
    r.tick gc = { r with acc := BitVec.ofNat 16 ((r.acc.toNat + 1) % gc.period.toNat) } := by
  unfold Gen.tick
  rw [hmode]

theorem Gen.tick_of_stopping (hmode : r.mode = .stopping) :
    r.tick gc = { r with acc := BitVec.ofNat 16 (min (r.acc.toNat + 1) 65535) } := by
  unfold Gen.tick
  rw [hmode]

/-- R107: the phase of a running generator counts TICKs modulo the period. -/
theorem Gen.iterate_tick_of_running (hmode : r.mode = .running) (hacc : r.acc.toNat < gc.period.toNat) (k : Nat) :
    ((Gen.tick gc)^[k] r).mode = .running ∧
      ((Gen.tick gc)^[k] r).acc.toNat = (r.acc.toNat + k) % gc.period.toNat := by
  induction k with
  | zero => exact ⟨hmode, (Nat.mod_eq_of_lt hacc).symm⟩
  | succ k ih =>
    obtain ⟨ihmode, ihacc⟩ := ih
    rw [Function.iterate_succ_apply', Gen.tick_of_running ihmode]
    have hlt : (r.acc.toNat + (k + 1)) % gc.period.toNat < 2 ^ 16 :=
      (Nat.mod_lt _ (by omega)).trans gc.period.isLt
    refine ⟨ihmode, ?_⟩
    rw [ihacc, Nat.mod_add_mod, BitVec.toNat_ofNat, Nat.add_assoc, Nat.mod_eq_of_lt hlt]

/-- R110: the time of a stop-fade counts TICKs and saturates; nothing else moves. -/
theorem Gen.iterate_tick_of_stopping (hmode : r.mode = .stopping) (hacc : r.acc = 0) (k : Nat) :
    ((Gen.tick gc)^[k] r).mode = .stopping ∧ ((Gen.tick gc)^[k] r).fadeFrom = r.fadeFrom ∧
      ((Gen.tick gc)^[k] r).acc.toNat = min k 65535 := by
  induction k with
  | zero => exact ⟨hmode, rfl, by simp [hacc]⟩
  | succ k ih =>
    obtain ⟨ihmode, ihfade, ihacc⟩ := ih
    rw [Function.iterate_succ_apply', Gen.tick_of_stopping ihmode]
    refine ⟨ihmode, ihfade, ?_⟩
    simp only [ihacc, BitVec.toNat_ofNat]
    omega

end

/-! ## The duration of a stop-fade (R110) -/

/-- The stop-fade is at 0 from `ceil(f * (P - up) / MAX)` on. -/
theorem stopFade_eq_zero_iff {a p f e : Nat} (ha : 1 ≤ a) (hp : 1 ≤ p) :
    stopFade a p f e = 0 ↔ (f * (p - p / 2) + (a - 1)) / a ≤ e := by
  rw [stopFade, Nat.sub_eq_zero_iff_le, Nat.le_div_iff_mul_le (by omega), Nat.div_le_iff_le_mul_add_pred ha]
  omega

/-- At 65535 ms, where the time saturates, every stop-fade has reached 0. -/
theorem stopFade_min {a p f : Nat} (e : Nat) (hf : f ≤ a) (hp : 1 ≤ p) (hp16 : p < 2 ^ 16) :
    stopFade a p f (min e 65535) = stopFade a p f e := by
  have hover {e : Nat} (he : 65535 ≤ e) : stopFade a p f e = 0 := by
    have hfe : f * (p - p / 2) ≤ a * e := Nat.mul_le_mul hf (by omega)
    exact Nat.sub_eq_zero_of_le ((Nat.le_div_iff_mul_le (by omega)).2 hfe)
  rcases le_total e 65535 with he | he
  · rw [Nat.min_eq_left he]
  · rw [Nat.min_eq_right he, hover le_rfl, hover he]

/-- What a Pulse emits `k` TICKs after GEN_STOP caught it at a level other than 0 (R106, R110). -/
theorem Gen.output_of_ticks_after_stop {c : Config} {gc : GenCfg} {r : Gen} (hmode : r.mode = .running)
    (hhold : gc.hold = false) (hkind : gc.kind = .pulse) (hwf : gc.wf = true)
    (hlevel : 0 < pulseLevel c.maxLevel.toNat gc.period.toNat (phase gc r)) (k : Nat) :
    ((Gen.tick gc)^[k] (r.stop c gc)).mode = .stopping ∧
      (((Gen.tick gc)^[k] (r.stop c gc)).output c gc).2 = false ∧
      (((Gen.tick gc)^[k] (r.stop c gc)).output c gc).1.toNat =
        stopFade c.maxLevel.toNat gc.period.toNat (pulseLevel c.maxLevel.toNat gc.period.toNat (phase gc r)) k := by
  have hp := GenCfg.two_le_period hkind hwf
  rw [Gen.stop_pulse_of_pos hmode hhold hkind hwf hlevel]
  obtain ⟨hstopping, hfade, hacc⟩ := Gen.iterate_tick_of_stopping (gc := gc)
    (r := { r with mode := .stopping, acc := 0, fadeFrom := (wave c gc (phase gc r)).1 }) rfl rfl k
  refine ⟨hstopping, by rw [Gen.output_of_stopping hstopping], ?_⟩
  rw [Gen.output_of_stopping_toNat hstopping, hfade, hacc, wave_pulse_toNat hkind hwf,
    stopFade_min k (pulseLevel_le hp) (by omega) gc.period.isLt]

/-! ## A run of TICKs -/

/-- The state after `k` TICKs. -/
def State.afterTicks : Nat → State → State
  | 0, s => s
  | k + 1, s => State.afterTicks k s.beginOp.wake.tick

theorem execList_pseudoTicks (k : Nat) (s : State) : execList (pseudoTicks k) s = .next (s.afterTicks k) := by
  induction k generalizing s with
  | zero => rfl
  | succ k ih => exact (execList_cons_of_exec (exec_eq .tick s) _).trans (ih _)

@[simp] theorem State.afterTicks_cfg (k : Nat) (s : State) : (s.afterTicks k).cfg = s.cfg := by
  induction k generalizing s with
  | zero => rfl
  | succ k ih => exact ih _

theorem State.afterTicks_gens_length (k : Nat) (s : State) : (s.afterTicks k).gens.length = s.gens.length := by
  induction k generalizing s with
  | zero => rfl
  | succ k ih => exact (ih _).trans (by simp)

theorem State.afterTicks_gen (k : Nat) (s : State) (g : Nat) :
    (s.afterTicks k).gen g = (Gen.tick (s.cfg.genCfg g))^[k] (s.gen g) := by
  induction k generalizing s with
  | zero => rfl
  | succ k ih =>
    rw [State.afterTicks, ih, State.tick_gen_all]
    rfl

/-- An operation that answers a state, followed by TICKs. -/
theorem execList_cons_pseudoTicks {i : Instr} {s t : State} (h : exec i s = .next t) (k : Nat) :
    execList (i :: pseudoTicks k) s = .next (t.afterTicks k) :=
  (execList_cons_of_exec h _).trans (execList_pseudoTicks k t)

/-! ## The four operations on the state -/

section
variable {s : State} {idx : BitVec 8}

theorem exec_of_wf {i : Instr} (h : i.wf s.cfg.nz s.cfg.ng = true) : exec i s = .next (effect i s.beginOp) := by
  rw [exec_eq, if_pos h]

theorem exec_genStart (h : idx.toNat < s.cfg.ng) : exec (.genStart idx) s = .next (s.beginOp.genStart idx.toNat) :=
  exec_of_wf (decide_eq_true h)

theorem exec_genStop (h : idx.toNat < s.cfg.ng) : exec (.genStop idx) s = .next (s.beginOp.genStop idx.toNat) :=
  exec_of_wf (decide_eq_true h)

/-- The operation's ports do not enter what it emits. -/
theorem exec_genStep (h : idx.toNat < s.cfg.ng) :
    exec (.genStep idx) s = .next ((s.beginOp.genStep idx.toNat).withResult
      (stepWord (s.genOutput idx.toNat).1 (s.genOutput idx.toNat).2)) :=
  exec_of_wf (decide_eq_true h)

theorem exec_genIsrun (h : idx.toNat < s.cfg.ng) :
    exec (.genIsrun idx) s = .next (s.beginOp.withResult (flagWord ((s.gen idx.toNat).mode == .running))) :=
  exec_of_wf (decide_eq_true h)

end

section
variable {s : State} {g : Nat}

theorem State.genStart_gen_same (h : g < s.gens.length) : (s.genStart g).gen g = (s.gen g).start :=
  State.gen_setGen_same s g _ h

theorem State.genStop_gen_same (h : g < s.gens.length) :
    (s.genStop g).gen g = (s.gen g).stop s.cfg (s.cfg.genCfg g) :=
  State.gen_setGen_same s g _ h

/-- Writing back what a register file holds changes nothing. -/
theorem State.setGen_gen (s : State) (g : Nat) : s.setGen g (s.gen g) = s := by
  have hset : s.gens.set g (s.gen g) = s.gens := by
    apply List.ext_getElem?
    intro y
    by_cases hy : g = y
    · subst hy
      by_cases hg : g < s.gens.length <;> simp [State.gen, List.getD_eq_getElem?_getD, hg]
    · simp [hy]
  exact congrArg (fun gens => { s with gens := gens }) hset

theorem State.genStop_of_not_running (hmode : (s.gen g).mode ≠ .running) : s.genStop g = s := by
  rw [State.genStop, Gen.stop_of_not_running hmode, State.setGen_gen]

/-- GEN_STEP with its result word writes the two files of R106 and `result`. -/
theorem State.genStep_withResult_frame (s : State) (g : Nat) (w : Word) :
    (s.genStep g).withResult w =
      { s with gens := (s.genStep g).gens, frame := (s.genStep g).frame, result := w } :=
  State.ext_iff.2 (by simp)

end

/-- R82: the `on` report stands above the 16 bits of the brightness. -/
theorem stepWord_toNat (b : Half) (on : Bool) : (stepWord b on).toNat = b.toNat + if on then 2 ^ 16 else 0 := by
  have hb := b.isLt
  have happend : (BitVec.ofBool on ++ b).toNat = (BitVec.ofBool on).toNat * 2 ^ 16 + b.toNat := by
    rw [BitVec.toNat_append, ← Nat.shiftLeft_add_eq_or_of_lt hb, Nat.shiftLeft_eq]
  rw [stepWord, BitVec.toNat_setWidth, happend, BitVec.toNat_ofBool]
  cases on <;> simp only [Bool.toNat_true, Bool.toNat_false, if_true, Bool.false_eq_true, if_false] <;> omega

/-! ## The statements -/

/-- Settles O34: the wave of a Pulse is `pulseLevel`, whose two sides meet at the peak. -/
theorem pulseIsATriangle : Obligations.PulseIsATriangle := by
  unfold Obligations.PulseIsATriangle
  intro c gc hkind hwf hmax p up a b
  have hp : 2 ≤ p := GenCfg.two_le_period hkind hwf
  have hb (e : Nat) : b e = pulseLevel a p e := wave_pulse_toNat hkind hwf
  refine ⟨fun e _ => hb e, fun e _ => wave_pulse_on hkind, ?_, fun e _ => ⟨fun he => ?_, ?_⟩, ?_, ?_⟩
  · rw [hb, pulseLevel_zero hp]
  · by_contra hne
    exact (pulseLevel_lt hmax hp hne).ne ((hb e).symm.trans he)
  · rintro rfl
    rw [hb, pulseLevel_up hp]
  · intro e e' hee' he'
    rw [hb, hb]
    exact pulseLevel_mono hp hee' he'
  · intro e e' he hee' _
    rw [hb, hb]
    exact pulseLevel_anti he hee'

/-- Settles O35: the phases with an `on` report are `[0, GON)`, which lies within the period. -/
theorem indicatorIsOnFirst : Obligations.IndicatorIsOnFirst := by
  unfold Obligations.IndicatorIsOnFirst
  intro c gc on minB maxB hkind hwf
  refine ⟨fun e _ => wave_indicator hkind, ?_⟩
  obtain ⟨⟨-, hon⟩, -⟩ : (1 ≤ gc.period.toNat ∧ on.toNat ≤ gc.period.toNat) ∧ minB.toNat ≤ maxB.toNat := by
    simpa [GenCfg.wf, hkind] using hwf
  rw [length_filter_range_eq_card (phases := Finset.range on.toNat), Finset.card_range]
  intro e
  rw [Finset.mem_range, wave_indicator_on hkind, decide_eq_true_eq]
  omega

/-- Settles O36: by `doubleOn_iff`, the on phases are two disjoint intervals, counted each. -/
theorem doubleIndicatorIsOnInTwoIntervals : Obligations.DoubleIndicatorIsOnInTwoIntervals := by
  unfold Obligations.DoubleIndicatorIsOnInTwoIntervals
  intro c gc d1 gap d2 minB maxB hkind hwf p r
  obtain ⟨hsum, -⟩ : d1.toNat + gap.toNat + d2.toNat < p ∧ minB.toNat ≤ maxB.toNat := by
    simpa [GenCfg.wf, hkind] using hwf
  have hwave (e : Nat) (he : e < p) : wave c gc e =
      if (r ≤ e ∧ e < r + d1.toNat) ∨ p - d2.toNat ≤ e then (maxB, true) else (minB, false) := by
    rw [wave_double hkind]
    exact if_congr (doubleOn_iff hsum he) rfl rfl
  have hdisjoint : r + d1.toNat ≤ p - d2.toNat := by omega
  refine ⟨hdisjoint, hwave, ?_, ?_⟩
  · rw [hwave 0 (by omega), if_neg (by omega)]
  · simp only [wave_double_on hkind]
    exact length_filter_doubleOn hsum

/-- Settles O37: GEN_START writes the registers of one generator. -/
theorem genStartRestartsThePhase : Obligations.GenStartRestartsThePhase := by
  unfold Obligations.GenStartRestartsThePhase
  intro s idx hshape hidx
  have hlt : idx.toNat < s.beginOp.gens.length := hshape.2 ▸ hidx
  exact ⟨_, exec_genStart hidx, rfl, State.genStart_length _ _, State.genStart_gen_same hlt,
    fun y hy => State.gen_setGen_other _ _ _ _ hy⟩

/-- Settles O38: GEN_STOP writes the registers of one generator; a level of the wave is 0 as a register exactly when
`pulseLevel` is 0. -/
theorem genStopStopsOrFades : Obligations.GenStopStopsOrFades := by
  unfold Obligations.GenStopStopsOrFades
  intro s idx hwf hshape hidx hmode g gc f
  have hsame : (s.beginOp.genStop g).gen g = (s.gen g).stop s.cfg gc :=
    State.genStop_gen_same (s := s.beginOp) (hshape.2 ▸ hidx)
  refine ⟨_, exec_genStop hidx, rfl, State.genStop_length _ _, fun y hy => State.gen_setGen_other _ _ _ _ hy, ?_, ?_⟩
  · rw [hsame]
    intro h
    by_cases honce : gc.hold = true ∨ gc.kind ≠ .pulse
    · exact Gen.stop_at_once hmode honce
    · obtain ⟨hhold, hkind⟩ := not_or.1 honce
      exact Gen.stop_pulse_of_zero hmode (not_not.1 hkind) ((h.resolve_left hhold).resolve_left hkind)
  · intro hhold hkind hf
    have hgc : gc.wf = true := Config.genCfg_wf hwf g
    rw [hsame, Gen.stop_pulse_of_pos hmode hhold hkind hgc hf]
    exact ⟨by rw [wave_pulse_fst hkind]; rfl, wave_pulse_toNat hkind hgc⟩

/-- Settles O39: GEN_STOP writes back the registers it finds, so GEN_STEP meets the state with other ports only. -/
theorem genStopIsIdempotent : Obligations.GenStopIsIdempotent := by
  unfold Obligations.GenStopIsIdempotent
  intro s idx hidx hmode
  have hstop : exec (.genStop idx) s = .next s.beginOp := by
    rw [exec_genStop hidx, State.genStop_of_not_running (s := s.beginOp) hmode]
  refine ⟨hstop, ?_⟩
  rw [execList_cons_of_exec hstop, execList_cons_of_exec (exec_genStep (s := s.beginOp) hidx), exec_genStep hidx]
  rfl

/-- Settles O40: the flag word of each truth value. -/
theorem genIsrunReportsRunning : Obligations.GenIsrunReportsRunning := by
  unfold Obligations.GenIsrunReportsRunning
  intro s idx hidx
  rw [exec_genIsrun hidx]
  by_cases hmode : (s.gen idx.toNat).mode = .running
  · rw [if_pos hmode, beq_iff_eq.2 hmode]
    rfl
  · rw [if_neg hmode, beq_eq_false_iff_ne.2 hmode]
    rfl

/-- Settles O41: the output by mode, the settled registers, and the commit to the bound zones. -/
theorem genStepEmitsAndCommits : Obligations.GenStepEmitsAndCommits := by
  unfold Obligations.GenStepEmitsAndCommits
  intro s idx hshape hframe hidx g r gc
  have hgen : (s.beginOp.genStep g).gen g = r.settle (r.output s.cfg gc).1 :=
    State.genStep_gen_same s.beginOp g (hshape.2 ▸ hidx)
  refine ⟨_, (r.output s.cfg gc).1, (r.output s.cfg gc).2, exec_genStep hidx,
    State.genStep_withResult_frame s.beginOp g _, Gen.output_of_running, fun hmode => ⟨?_, ?_⟩, fun hmode => ?_,
    stepWord_toNat _ _, State.genStep_length s.beginOp g, fun y hy => State.genStep_gen_other s.beginOp g y hy,
    hgen.trans (Gen.settle_eq _), fun ch => ?_⟩
  · rw [Gen.output_of_stopping hmode]
  · exact Gen.output_of_stopping_toNat hmode
  · rw [Gen.output_of_stopped hmode]
    exact ⟨rfl, rfl⟩
  · have hread := State.memRead_genStep s.beginOp g hframe.1 ch
    simp only [mem_boundZones, and_assoc] at hread
    refine (congrArg BitVec.toNat hread).trans ?_
    rw [apply_ite BitVec.toNat, clampB_toNat]
    rfl

/-- Settles O42: GEN_START, then the TICKs on a running generator from phase 0. -/
theorem phaseCountsTicksSinceStart : Obligations.PhaseCountsTicksSinceStart := by
  unfold Obligations.PhaseCountsTicksSinceStart
  intro s idx k hwf hshape hidx
  refine ⟨_, execList_cons_pseudoTicks (exec_genStart hidx) k, ?_⟩
  have hstart : (s.beginOp.genStart idx.toNat).gen idx.toNat = (s.gen idx.toNat).start :=
    State.genStart_gen_same (s := s.beginOp) (hshape.2 ▸ hidx)
  rw [State.afterTicks_gen, hstart]
  have h := Gen.iterate_tick_of_running (gc := s.cfg.genCfg idx.toNat) (r := (s.gen idx.toNat).start) rfl
    (GenCfg.period_pos (Config.genCfg_wf hwf _)) k
  simpa [Gen.start] using h

/-- Settles O43: `fadeFrom` holds the captured level, the time of the fade counts TICKs, and its saturation is past the
end of every fade. -/
theorem stopFadeLastsItsDuration : Obligations.StopFadeLastsItsDuration := by
  unfold Obligations.StopFadeLastsItsDuration
  intro s idx e hwf hshape hidx g gc a half f hmode hkind hhold hf
  have hgc : gc.wf = true := Config.genCfg_wf hwf g
  have hlt : g < s.beginOp.gens.length := hshape.2 ▸ hidx
  have hstop : (s.beginOp.genStop g).gen g = (s.gen g).stop s.cfg gc := State.genStop_gen_same hlt
  obtain ⟨u, hrun, hcfg, hltu, hgen⟩ : ∃ u, execList (.genStop idx :: pseudoTicks e) s = .next u ∧
      u.cfg = s.cfg ∧ g < u.gens.length ∧ u.gen g = (Gen.tick gc)^[e] ((s.gen g).stop s.cfg gc) :=
    ⟨_, execList_cons_pseudoTicks (exec_genStop hidx) e, State.afterTicks_cfg e _,
      by rwa [State.afterTicks_gens_length, State.genStop_length], by rw [State.afterTicks_gen, hstop]; rfl⟩
  obtain ⟨hstopping, hon, hlevel⟩ := Gen.output_of_ticks_after_stop hmode hhold hkind hgc hf e
  have houtput : u.genOutput g = (u.gen g).output s.cfg gc := by rw [State.genOutput, hcfg]
  rw [← hgen] at hstopping hon hlevel
  rw [← houtput] at hon hlevel
  refine ⟨u, _, hrun, exec_genStep (hcfg ▸ hidx), ?_, ?_⟩
  · exact (stepWord_toNat _ _).trans (by rw [hon, hlevel]; rfl)
  · have hstep : (u.beginOp.genStep g).gen g = (u.gen g).settle (u.genOutput g).1 :=
      State.genStep_gen_same u.beginOp g hltu
    obtain ⟨-, hmax, -⟩ := hwf
    calc ((u.beginOp.genStep g).gen g).mode = .stopped
        ↔ (u.genOutput g).1 = 0 := by rw [hstep, Gen.settle_mode_of_stopping hstopping]
      _ ↔ (u.genOutput g).1.toNat = 0 := BitVec.toNat_eq
      _ ↔ (f * half + (a - 1)) / a ≤ e := by rw [hlevel]; exact stopFade_eq_zero_iff hmax (GenCfg.period_pos hgc)

end Sys2Proof.Machine
end

section
/-! Proofs/Zones.lean: how far a fade has come as a function of its time, the level in these terms, one zone under
ZONE_ON, ZONE_OFF and TICK, and the statements of 41_led_zone.md that follow. -/

namespace Sys2Proof.Machine

/-! ## The progress of a fade (R130) -/

/-- How far a fade over the distance `span` has come after `e` of its `d` ms, whether it rises or falls: what R130 adds
to `from` or takes from it. -/
def fadeProgress (span d e : Nat) : Nat := if d ≤ e then span else span * e / d

section
variable {span d e e' : Nat}

theorem fadeProgress_of_le (h : d ≤ e) : fadeProgress span d e = span := if_pos h

theorem fadeProgress_of_lt (h : e < d) : fadeProgress span d e = span * e / d := if_neg (by omega)

theorem fadeProgress_zero (hd : 1 ≤ d) : fadeProgress span d 0 = 0 := by simp [fadeProgress_of_lt hd]

/-- Truncation keeps a fade short of its target until its time is over. -/
theorem fadeProgress_lt (hspan : 0 < span) (h : e < d) : fadeProgress span d e < span := by
  rw [fadeProgress_of_lt h]
  exact Nat.div_lt_of_lt_mul ((Nat.mul_comm span e).trans_lt ((Nat.mul_lt_mul_right hspan).2 h))

theorem fadeProgress_le : fadeProgress span d e ≤ span := by
  rcases le_or_gt d e with h | h
  · exact (fadeProgress_of_le h).le
  · rw [fadeProgress_of_lt h]
    exact Nat.div_le_of_le_mul ((Nat.mul_comm span e).trans_le (Nat.mul_le_mul_right span h.le))

/-- A fade over no distance moves nowhere. -/
@[simp] theorem fadeProgress_zero_span : fadeProgress 0 d e = 0 := Nat.le_zero.1 fadeProgress_le

theorem fadeProgress_mono (h : e ≤ e') : fadeProgress span d e ≤ fadeProgress span d e' := by
  rcases le_or_gt d e' with he' | he'
  · exact fadeProgress_le.trans_eq (fadeProgress_of_le he').symm
  · rw [fadeProgress_of_lt he', fadeProgress_of_lt (h.trans_lt he')]
    exact Nat.div_le_div_right (Nat.mul_le_mul_left span h)

/-- R134: the first ms of a fade over at most `m` brings it no further than `ceil(m / d)`. -/
theorem fadeProgress_one_le {m : Nat} (hd : 1 ≤ d) (hm : span ≤ m) : fadeProgress span d 1 ≤ (m + d - 1) / d := by
  rcases hd.eq_or_lt with rfl | hd
  · simpa [fadeProgress_of_le] using hm
  · rw [fadeProgress_of_lt hd]
    exact Nat.div_le_div_right (by omega)

end

/-! ## The level in terms of the progress -/

section
variable {r : Zone}

theorem Zone.level_of_done (h : r.dur.toNat ≤ r.elapsed.toNat) : r.level = r.target := if_pos h

/-- The levels of a rising fade fit 16 bits, because they do not exceed the target. -/
theorem Zone.level_of_rising (h : r.fromLevel.toNat ≤ r.target.toNat) :
    r.level.toNat =
      r.fromLevel.toNat + fadeProgress (r.target.toNat - r.fromLevel.toNat) r.dur.toNat r.elapsed.toNat := by
  rcases le_or_gt r.dur.toNat r.elapsed.toNat with he | he
  · rw [Zone.level_of_done he, fadeProgress_of_le he]
    omega
  · have hle := fadeProgress_le (span := r.target.toNat - r.fromLevel.toNat) (d := r.dur.toNat) (e := r.elapsed.toNat)
    have ht := r.target.isLt
    rw [fadeProgress_of_lt he] at hle ⊢
    rw [Zone.level, if_neg (by omega), if_pos h, BitVec.toNat_ofNat, Nat.mod_eq_of_lt (by omega)]

theorem Zone.level_of_falling (h : r.target.toNat ≤ r.fromLevel.toNat) :
    r.level.toNat =
      r.fromLevel.toNat - fadeProgress (r.fromLevel.toNat - r.target.toNat) r.dur.toNat r.elapsed.toNat := by
  rcases h.eq_or_lt with heq | hlt
  · simp [Zone.level_of_rising heq.ge, heq]
  · rcases le_or_gt r.dur.toNat r.elapsed.toNat with he | he
    · rw [Zone.level_of_done he, fadeProgress_of_le he]
      omega
    · rw [fadeProgress_of_lt he, Zone.level, if_neg (by omega), if_neg (by omega), BitVec.toNat_ofNat]
      exact Nat.mod_eq_of_lt ((Nat.sub_le _ _).trans_lt r.fromLevel.isLt)

/-- A fade of duration at least 1 begins where it starts from. -/
theorem Zone.level_of_start (hd : 1 ≤ r.dur.toNat) (he : r.elapsed = 0) : r.level = r.fromLevel := by
  have helapsed : r.elapsed.toNat = 0 := by rw [he]; rfl
  apply BitVec.eq_of_toNat_eq
  rcases le_total r.fromLevel.toNat r.target.toNat with h | h
  · rw [Zone.level_of_rising h, helapsed, fadeProgress_zero hd, Nat.add_zero]
  · rw [Zone.level_of_falling h, helapsed, fadeProgress_zero hd, Nat.sub_zero]

/-- R136: a fade over any distance is at its target exactly when its time is over. -/
theorem Zone.level_eq_target_iff (h : r.fromLevel ≠ r.target) :
    r.level = r.target ↔ r.dur.toNat ≤ r.elapsed.toNat := by
  refine ⟨fun hlevel => ?_, Zone.level_of_done⟩
  by_contra hlt
  have hlevel : r.level.toNat = r.target.toNat := congrArg BitVec.toNat hlevel
  have hne : r.fromLevel.toNat ≠ r.target.toNat := mt BitVec.eq_of_toNat_eq h
  rcases hne.lt_or_gt with h | h
  · have hshort := fadeProgress_lt (Nat.sub_pos_of_lt h) (not_le.1 hlt)
    rw [Zone.level_of_rising h.le] at hlevel
    omega
  · have hshort := fadeProgress_lt (Nat.sub_pos_of_lt h) (not_le.1 hlt)
    rw [Zone.level_of_falling h.le] at hlevel
    omega

/-- R130: a rising level only rises, and stays between `from` and `target`. -/
theorem Zone.level_mono_of_rising {e' : Half} (h : r.fromLevel.toNat ≤ r.target.toNat)
    (he : r.elapsed.toNat ≤ e'.toNat) :
    r.fromLevel.toNat ≤ r.level.toNat ∧ r.level.toNat ≤ { r with elapsed := e' }.level.toNat ∧
      { r with elapsed := e' }.level.toNat ≤ r.target.toNat := by
  have hmono := fadeProgress_mono (span := r.target.toNat - r.fromLevel.toNat) (d := r.dur.toNat) he
  have hle := fadeProgress_le (span := r.target.toNat - r.fromLevel.toNat) (d := r.dur.toNat) (e := e'.toNat)
  rw [Zone.level_of_rising h, Zone.level_of_rising (r := { r with elapsed := e' }) h]
  dsimp only
  omega

/-- R130: a falling level only falls, and stays between `target` and `from`. -/
theorem Zone.level_anti_of_falling {e' : Half} (h : r.target.toNat ≤ r.fromLevel.toNat)
    (he : r.elapsed.toNat ≤ e'.toNat) :
    r.target.toNat ≤ { r with elapsed := e' }.level.toNat ∧ { r with elapsed := e' }.level.toNat ≤ r.level.toNat ∧
      r.level.toNat ≤ r.fromLevel.toNat := by
  have hmono := fadeProgress_mono (span := r.fromLevel.toNat - r.target.toNat) (d := r.dur.toNat) he
  have hle := fadeProgress_le (span := r.fromLevel.toNat - r.target.toNat) (d := r.dur.toNat) (e := e'.toNat)
  rw [Zone.level_of_falling h, Zone.level_of_falling (r := { r with elapsed := e' }) h]
  dsimp only
  omega

/-! ## One zone under TICK (R210) -/

theorem Zone.tick_of_lt (h : r.elapsed.toNat < r.dur.toNat) :
    r.tick = { r with elapsed := BitVec.ofNat 16 (r.elapsed.toNat + 1) } := if_pos h

theorem Zone.tick_of_done (h : r.dur.toNat ≤ r.elapsed.toNat) : r.tick = r := if_neg (by omega)

/-- The time of a running fade cannot wrap, because it does not exceed the duration. -/
theorem Zone.tick_elapsed_of_lt (h : r.elapsed.toNat < r.dur.toNat) :
    r.tick.elapsed.toNat = r.elapsed.toNat + 1 := by
  have hdur := r.dur.isLt
  rw [Zone.tick_of_lt h, BitVec.toNat_ofNat, Nat.mod_eq_of_lt (by omega)]

theorem Zone.le_tick_elapsed : r.elapsed.toNat ≤ r.tick.elapsed.toNat := by
  rcases le_or_gt r.dur.toNat r.elapsed.toNat with h | h
  · rw [Zone.tick_of_done h]
  · rw [Zone.tick_elapsed_of_lt h]
    omega

/-- A zone at its target has nowhere to move. -/
theorem Zone.tick_level_of_settled (h : r.level = r.target) : r.tick.level = r.level := by
  apply BitVec.eq_of_toNat_eq
  rw [Zone.tick_eq]
  have hlevel : r.level.toNat = r.target.toNat := congrArg BitVec.toNat h
  rcases le_total r.fromLevel.toNat r.target.toNat with hft | hft
  · obtain ⟨-, hge, hle⟩ := Zone.level_mono_of_rising hft r.le_tick_elapsed
    omega
  · obtain ⟨hge, hle, -⟩ := Zone.level_anti_of_falling hft r.le_tick_elapsed
    omega

/-- A run of TICKs moves the time of a fade up to its duration, and nothing else. -/
theorem Zone.iterate_tick (h : r.elapsed.toNat ≤ r.dur.toNat) (k : Nat) :
    Zone.tick^[k] r = { r with elapsed := (Zone.tick^[k] r).elapsed } ∧
      (Zone.tick^[k] r).elapsed.toNat = min (r.elapsed.toNat + k) r.dur.toNat := by
  induction k with
  | zero => exact ⟨rfl, (Nat.min_eq_left h).symm⟩
  | succ k ih =>
    obtain ⟨hframe, helapsed⟩ := ih
    have hdur : (Zone.tick^[k] r).dur = r.dur := by rw [hframe]
    rw [Function.iterate_succ_apply']
    refine ⟨by rw [Zone.tick_eq, hframe], ?_⟩
    rcases le_or_gt r.dur.toNat (r.elapsed.toNat + k) with hk | hk
    · rw [Zone.tick_of_done (by rw [hdur, helapsed]; omega), helapsed]
      omega
    · rw [Zone.tick_elapsed_of_lt (by rw [hdur, helapsed]; omega), helapsed]
      omega

/-- R134: the first TICK of a fade between levels of at most `m` moves the level by at most `ceil(m / dur)`. -/
theorem Zone.tick_level_of_start {m : Nat} (hd : 1 ≤ r.dur.toNat) (he : r.elapsed = 0)
    (hfrom : r.fromLevel.toNat ≤ m) (htarget : r.target.toNat ≤ m) :
    r.tick.level.toNat ≤ r.fromLevel.toNat + (m + r.dur.toNat - 1) / r.dur.toNat ∧
      r.fromLevel.toNat ≤ r.tick.level.toNat + (m + r.dur.toNat - 1) / r.dur.toNat := by
  have hstart : r.elapsed.toNat = 0 := by rw [he]; rfl
  have helapsed : r.tick.elapsed.toNat = 1 := by rw [Zone.tick_elapsed_of_lt (by omega), hstart]
  rw [Zone.tick_eq]
  rcases le_total r.fromLevel.toNat r.target.toNat with h | h
  · have hstep := fadeProgress_one_le hd ((Nat.sub_le r.target.toNat r.fromLevel.toNat).trans htarget)
    rw [Zone.level_of_rising (r := { r with elapsed := r.tick.elapsed }) h, helapsed]
    exact ⟨Nat.add_le_add_left hstep _, (Nat.le_add_right _ _).trans (Nat.le_add_right _ _)⟩
  · have hstep := fadeProgress_one_le hd ((Nat.sub_le r.fromLevel.toNat r.target.toNat).trans hfrom)
    rw [Zone.level_of_falling (r := { r with elapsed := r.tick.elapsed }) h, helapsed]
    exact ⟨(Nat.sub_le _ _).trans (Nat.le_add_right _ _), Nat.sub_le_iff_le_add.1 (Nat.sub_le_sub_left hstep _)⟩

/-- R136: a fade over any distance reaches its target in its last TICK, and holds it. -/
theorem Zone.iterate_tick_level_eq_target_iff (he : r.elapsed = 0) (h : r.fromLevel ≠ r.target) (k : Nat) :
    (Zone.tick^[k] r).level = r.target ↔ r.dur.toNat ≤ k := by
  obtain ⟨hframe, helapsed⟩ := Zone.iterate_tick (r := r) (by simp [he]) k
  rw [hframe]
  refine (Zone.level_eq_target_iff (r := { r with elapsed := (Zone.tick^[k] r).elapsed }) h).trans ?_
  rw [helapsed, he]
  simp

/-! ## One zone under ZONE_ON and ZONE_OFF (R131, R132) -/

section
variable {goal d : Half}

theorem Zone.retarget_of_settled (h : r.level = goal ∧ r.target = goal) : r.retarget goal d = r := if_pos h

theorem Zone.retarget_of_not_settled (h : ¬(r.level = goal ∧ r.target = goal)) :
    r.retarget goal d = { cur := r.level, fromLevel := r.level, target := goal, dur := d, elapsed := 0 } := if_neg h

/-- R134: a fade restarts from where the zone is. -/
theorem Zone.retarget_level (hd : 1 ≤ d.toNat) : (r.retarget goal d).level = r.level := by
  by_cases h : r.level = goal ∧ r.target = goal
  · rw [Zone.retarget_of_settled h]
  · rw [Zone.retarget_of_not_settled h]
    exact Zone.level_of_start hd rfl

theorem Zone.retarget_level_of_zero (hd : d.toNat = 0) : (r.retarget goal d).level = goal := by
  by_cases h : r.level = goal ∧ r.target = goal
  · rw [Zone.retarget_of_settled h, h.1]
  · rw [Zone.retarget_of_not_settled h]
    exact Zone.level_of_done hd.le

/-- R134: one TICK after a fade restarted, its level is within `ceil(MAX / d)` of the one it restarted from. -/
theorem Zone.tick_retarget_level {c : Config} (hr : Zone.ok c r) (hgoal : goal = 0 ∨ goal = c.maxLevel)
    (hd : 1 ≤ d.toNat) :
    (r.retarget goal d).tick.level.toNat ≤ r.level.toNat + (c.maxLevel.toNat + d.toNat - 1) / d.toNat ∧
      r.level.toNat ≤ (r.retarget goal d).tick.level.toNat + (c.maxLevel.toNat + d.toNat - 1) / d.toNat := by
  by_cases h : r.level = goal ∧ r.target = goal
  · have hsettled : r.level = r.target := h.1.trans h.2.symm
    rw [Zone.retarget_of_settled h, Zone.tick_level_of_settled hsettled]
    exact ⟨Nat.le_add_right _ _, Nat.le_add_right _ _⟩
  · have hlevel := Zone.level_le_max hr
    have hmax : goal.toNat ≤ c.maxLevel.toNat := by rcases hgoal with rfl | rfl <;> simp
    rw [Zone.retarget_of_not_settled h]
    exact Zone.tick_level_of_start hd rfl hlevel hmax

theorem Zone.iterate_tick_retarget_level (h : r.level ≠ goal) (k : Nat) :
    (Zone.tick^[k] (r.retarget goal d)).level = goal ↔ d.toNat ≤ k := by
  rw [Zone.retarget_of_not_settled fun hsettled => h hsettled.1]
  exact Zone.iterate_tick_level_eq_target_iff rfl h k

end

end

/-! ## The three operations on the state -/

section
variable {s : State} {idx : BitVec 8}

/-- ZONE_ON and ZONE_OFF differ in their goal only. -/
theorem exec_fade {op : Instr} {d goal : Half} (h : idx.toNat < s.cfg.nz)
    (hop : (op = .zoneOn idx d ∧ goal = s.cfg.maxLevel) ∨ (op = .zoneOff idx d ∧ goal = 0)) :
    exec op s = .next (s.beginOp.setZone idx.toNat ((s.zone idx.toNat).retarget goal d)) := by
  rcases hop with ⟨rfl, rfl⟩ | ⟨rfl, rfl⟩ <;> exact exec_of_wf (decide_eq_true h)

theorem exec_zoneRun (h : idx.toNat < s.cfg.nz) :
    exec (.zoneRun idx) s =
      .next ((s.beginOp.zoneRun idx.toNat).withResult (levelWord (s.zone idx.toNat).level)) :=
  exec_of_wf (decide_eq_true h)

end

/-- Writing back what a register file holds changes nothing. -/
theorem State.setZone_zone (s : State) (z : Nat) : s.setZone z (s.zone z) = s := by
  have hset : s.zones.set z (s.zone z) = s.zones := by
    rcases lt_or_ge z s.zones.length with hz | hz
    · rw [State.zone, List.getD_eq_getElem _ _ hz, List.set_getElem_self]
    · exact List.set_eq_of_length_le hz
  exact congrArg (fun zones => { s with zones := zones }) hset

/-- ZONE_RUN with its result word writes the two files of R133 and `result`. -/
theorem State.zoneRun_withResult_frame (s : State) (z : Nat) (w : Word) :
    (s.zoneRun z).withResult w =
      { s with zones := (s.zoneRun z).zones, frame := (s.zoneRun z).frame, result := w } :=
  State.ext_iff.2 (by simp)

theorem levelWord_toNat (b : Half) : (levelWord b).toNat = b.toNat :=
  BitVec.toNat_setWidth_of_le (by decide)

theorem State.afterTicks_zone (k : Nat) (s : State) (z : Nat) :
    (s.afterTicks k).zone z = Zone.tick^[k] (s.zone z) := by
  induction k generalizing s with
  | zero => rfl
  | succ k ih =>
    rw [State.afterTicks, ih, State.tick_zone_all]
    rfl

/-! ## The statements -/

/-- Settles O44: within the duration the progress is the quotient of R130. -/
theorem zoneLevelInterpolates : Obligations.ZoneLevelInterpolates := by
  unfold Obligations.ZoneLevelInterpolates
  intro r f t d e
  refine ⟨Zone.level_of_done, fun he hft => ?_, fun he htf => ?_⟩
  · rw [Zone.level_of_rising hft, fadeProgress_of_lt he]
  · rw [Zone.level_of_falling htf.le, fadeProgress_of_lt he]

/-- Settles O45: the progress grows with the time and stays within the distance. -/
theorem zoneLevelIsMonotone : Obligations.ZoneLevelIsMonotone := by
  unfold Obligations.ZoneLevelIsMonotone
  intro r e' he r'
  exact ⟨fun h => Zone.level_mono_of_rising h he, fun h => Zone.level_anti_of_falling h he⟩

/-- Settles O46: one argument for both operations, which write back a settled zone as it is. -/
theorem zoneOnOffRestartTheFade : Obligations.ZoneOnOffRestartTheFade := by
  unfold Obligations.ZoneOnOffRestartTheFade
  intro s idx d hshape hidx z c quiet restarts
  have hlt : z < s.beginOp.zones.length := hshape.1 ▸ hidx
  have hrestarts {op : Instr} {goal : Half}
      (hop : (op = .zoneOn idx d ∧ goal = s.cfg.maxLevel) ∨ (op = .zoneOff idx d ∧ goal = 0)) : restarts op goal := by
    refine ⟨fun hsettled => ?_, fun hnot => ⟨_, exec_fade hidx hop, rfl, List.length_set,
      fun y hy => State.zone_setZone_other _ _ _ _ hy, ?_⟩⟩
    · rw [exec_fade hidx hop, Zone.retarget_of_settled hsettled]
      exact congrArg Host.Outcome.next (State.setZone_zone s.beginOp z)
    · exact (State.zone_setZone_same s.beginOp z _ hlt).trans (Zone.retarget_of_not_settled hnot)
  exact ⟨hrestarts (.inl ⟨rfl, rfl⟩), hrestarts (.inr ⟨rfl, rfl⟩)⟩

/-- Settles O47: the registers and the frame ZONE_RUN leaves, and its result word. -/
theorem zoneRunCommitsTheLevel : Obligations.ZoneRunCommitsTheLevel := by
  unfold Obligations.ZoneRunCommitsTheLevel
  intro s idx hshape hframe hidx z c
  refine ⟨_, exec_zoneRun hidx, State.zoneRun_withResult_frame s.beginOp z _, levelWord_toNat c,
    State.zoneRun_length s.beginOp z, State.zoneRun_zone_same s.beginOp z (hshape.1 ▸ hidx),
    fun y hy => State.zoneRun_zone_other s.beginOp z y hy, fun ch => ?_⟩
  refine (congrArg BitVec.toNat (State.memRead_zoneRun s.beginOp z hframe.1 ch)).trans ?_
  rw [apply_ite BitVec.toNat, clampB_toNat]
  rfl

/-- Settles O48: the zone restarts from its level, and the first TICK moves it by one step of the new fade. -/
theorem noJumpOnReversal : Obligations.NoJumpOnReversal := by
  unfold Obligations.NoJumpOnReversal
  intro s idx d op _ hshape hidx hop hok z before
  obtain ⟨goal, hgoal, hmax, hif⟩ : ∃ goal : Half,
      ((op = .zoneOn idx d ∧ goal = s.cfg.maxLevel) ∨ (op = .zoneOff idx d ∧ goal = 0)) ∧
        (goal = 0 ∨ goal = s.cfg.maxLevel) ∧ goal = if op = .zoneOn idx d then s.cfg.maxLevel else 0 := by
    rcases hop with rfl | rfl
    · exact ⟨_, .inl ⟨rfl, rfl⟩, .inr rfl, (if_pos rfl).symm⟩
    · exact ⟨_, .inr ⟨rfl, rfl⟩, .inl rfl, (if_neg (by simp)).symm⟩
  have hzone : (s.beginOp.setZone z ((s.zone z).retarget goal d)).zone z = (s.zone z).retarget goal d :=
    State.zone_setZone_same s.beginOp z _ (hshape.1 ▸ hidx)
  refine ⟨_, State.afterTicks 1 _, exec_fade hidx hgoal, exec_eq .tick _, fun hd => ⟨?_, ?_⟩, fun hd => ?_⟩
  · rw [hzone, Zone.retarget_level hd]
  · rw [State.afterTicks_zone, hzone]
    exact Zone.tick_retarget_level hok hmax hd
  · rw [hzone, Zone.retarget_level_of_zero hd, ← hif]

/-- Settles O49: the call restarts the fade, and the TICKs bring its time to the duration. -/
theorem fadeReachesItsTargetAtItsDuration : Obligations.FadeReachesItsTargetAtItsDuration := by
  unfold Obligations.FadeReachesItsTargetAtItsDuration
  intro s idx d goal op k hshape hidx _ hop hlevel
  refine ⟨_, execList_cons_pseudoTicks (exec_fade hidx hop) k, ?_⟩
  rw [State.afterTicks_zone, State.zone_setZone_same s.beginOp _ _ (hshape.1 ▸ hidx)]
  exact Zone.iterate_tick_retarget_level hlevel k

end Sys2Proof.Machine
end

section
/-! Proofs/Motion.lean: MOTION_EDGE and MOTION_TICK as equations, the hold time that is left as an invariant of a run,
and the statements of 42_motion_debounce.md that follow. -/

namespace Sys2Proof.Machine

/-! ## The two motion operations (R150, R151) -/

section
variable {s : State}

theorem State.motionEdge_of_lockout (h : s.lockout = true) : s.motionEdge = s := if_pos h

theorem State.motionEdge_of_not_lockout (h : s.lockout = false) :
    s.motionEdge = { s with motionTimer := s.cfg.holdMs, inMotion := true } := if_neg (by simp [h])

theorem State.motionTick_eq (s : State) :
    s.motionTick = { s with inMotion := s.inMotion && s.motionTimer != 0 } := by
  unfold State.motionTick
  split
  next hzero => simp [hzero]
  next hpos => rw [bne_iff_ne.2 hpos, Bool.and_true]

theorem State.motionTick_inMotion (s : State) : s.motionTick.inMotion = (s.inMotion && s.motionTimer != 0) := by
  rw [State.motionTick_eq]

/-! ## BTN_CONSUME without a Long press (R163) -/

/-- R165: of the press classes Long alone reaches the motion registers. -/
theorem State.btnConsume_keeps_motion (h : s.pressClass ≠ .long) :
    s.btnConsume.motionTimer = s.motionTimer ∧ s.btnConsume.inMotion = s.inMotion := by
  unfold State.btnConsume
  split
  next hnone => exact ⟨rfl, rfl⟩
  next hshort => simp
  next hlong => exact absurd hlong h
  next hthree => exact ⟨rfl, rfl⟩

end

/-! ## A run that avoids an operation -/

theorem runAvoids_cons_of_exec {bad : Instr → State → Bool} {i : Instr} {s t : State} (h : exec i s = .next t)
    (is : List Instr) : runAvoids bad (i :: is) s = true ↔ bad i s = false ∧ runAvoids bad is t = true := by
  simp [runAvoids, h]

/-! ## The hold time that is left (R152) -/

/-- `left` TICKs of the hold time are left, and motion is on while there are any. With none left `inMotion` is open:
it stays set until a MOTION_TICK or a POLL clears it. -/
def State.HoldLeft (left : Nat) (s : State) : Prop :=
  s.motionTimer.toNat = left ∧ (left ≠ 0 → s.inMotion = true)

section
variable {s t : State} {left : Nat}

/-- The hold time depends on two registers alone. -/
theorem State.HoldLeft.congr (h : s.HoldLeft left) (htimer : t.motionTimer = s.motionTimer)
    (hmotion : t.inMotion = s.inMotion) : t.HoldLeft left := by
  simpa only [State.HoldLeft, htimer, hmotion] using h

/-- R150: an accepted edge starts the hold time afresh. -/
theorem State.motionEdge_holdLeft (h : s.lockout = false) : s.motionEdge.HoldLeft s.cfg.holdMs.toNat := by
  rw [State.motionEdge_of_not_lockout h]
  exact ⟨rfl, fun _ => rfl⟩

/-- R210: a TICK takes one off the hold time, down to 0. -/
theorem State.HoldLeft.tick (h : s.HoldLeft left) : s.tick.HoldLeft (left - 1) := by
  obtain ⟨htimer, hmotion⟩ := h
  refine ⟨?_, fun hleft => hmotion (by omega)⟩
  rw [State.tick_motionTimer, dec_toNat, htimer]

theorem State.HoldLeft.motionTimer_eq_zero_iff (h : s.HoldLeft left) : s.motionTimer = 0 ↔ left = 0 := by
  obtain ⟨htimer, -⟩ := h
  rw [← htimer, BitVec.toNat_eq]
  rfl

/-- R151: MOTION_TICK takes effect only where no hold time is left. -/
theorem State.HoldLeft.motionTick (h : s.HoldLeft left) : s.motionTick.HoldLeft left := by
  refine ⟨by rw [State.motionTick_motionTimer, h.1], fun hleft => ?_⟩
  have hpos : s.motionTimer ≠ 0 := mt h.motionTimer_eq_zero_iff.1 hleft
  rw [State.motionTick_inMotion, h.2 hleft, bne_iff_ne.2 hpos, Bool.and_true]

theorem State.HoldLeft.motionTick_inMotion_eq_false_iff (h : s.HoldLeft left) :
    s.motionTick.inMotion = false ↔ left = 0 := by
  constructor
  · intro hoff
    by_contra hleft
    exact absurd (h.motionTick.2 hleft) (by simp [hoff])
  · intro hleft
    simp [State.motionTick_inMotion, h.motionTimer_eq_zero_iff.2 hleft]

theorem State.HoldLeft.btnConsume (h : s.HoldLeft left) (hlong : s.pressClass ≠ .long) :
    s.btnConsume.HoldLeft left := by
  obtain ⟨htimer, hmotion⟩ := State.btnConsume_keeps_motion hlong
  exact h.congr htimer hmotion

/-- R214: of the parts of a POLL the first two alone touch the motion registers. -/
theorem State.HoldLeft.poll (h : s.HoldLeft left) (hlong : s.asleep = false → s.pressClass ≠ .long) :
    s.poll.HoldLeft left := by
  unfold State.poll
  split
  next => exact h
  next hawake => exact (h.btnConsume (hlong (by simpa using hawake))).motionTick.congr (by simp) (by simp)

/-- Only time and what `endsHold` names move the hold time. -/
theorem State.HoldLeft.effect {i : Instr} (h : s.HoldLeft left) (htick : i ≠ .tick) (hends : endsHold i s = false) :
    (effect i s).HoldLeft left := by
  cases i with
  | tick => exact absurd rfl htick
  | reset => simp [endsHold] at hends
  | motionEdge =>
    have hlock : s.wake.lockout = true := by simpa [endsHold, consumesLong] using hends
    rw [Machine.effect, State.motionEdge_of_lockout hlock]
    exact h
  | poll => exact h.poll (by simpa [endsHold, consumesLong] using hends)
  | motionTick => exact h.motionTick
  | btnConsume => exact h.btnConsume (by simpa [endsHold, consumesLong] using hends)
  | _ => exact h.congr (by simp [Machine.effect]) (by simp [Machine.effect])

/-- One operation of the run: the TICKs left go down by the TICKs performed. -/
theorem State.HoldLeft.exec {i : Instr} (h : s.HoldLeft left) (hends : endsHold i s = false)
    (hexec : exec i s = .next t) : t.HoldLeft (left - if i == .tick then 1 else 0) := by
  rcases exec_cases hexec with ⟨-, rfl⟩ | ⟨hwf, rfl⟩
  · by_cases htick : i = .tick
    · subst htick
      exact State.HoldLeft.tick (s := s.beginOp.wake) h
    · simpa [htick] using State.HoldLeft.effect (s := s.beginOp) h htick hends
  · have htick : i ≠ .tick := by
      rintro rfl
      cases hwf
    simpa [htick] using h.congr (State.raiseRefused_motionTimer s) (State.raiseRefused_inMotion s)

/-- R152: over a run the hold time left is what it was less the TICKs. -/
theorem State.HoldLeft.execList {ops : List Instr} (h : s.HoldLeft left) (hruns : runAvoids endsHold ops s = true) :
    ∃ t, execList ops s = .next t ∧ t.HoldLeft (left - ops.count .tick) := by
  induction ops generalizing s left with
  | nil => exact ⟨s, rfl, h⟩
  | cons i is ih =>
    have hexec := exec_eq i s
    obtain ⟨hends, hrest⟩ := (runAvoids_cons_of_exec hexec is).1 hruns
    obtain ⟨t, hlist, ht⟩ := ih (h.exec hends hexec) hrest
    refine ⟨t, (execList_cons_of_exec hexec is).trans hlist, ?_⟩
    rwa [List.count_cons, Nat.add_comm, ← Nat.sub_sub]

end

/-! ## The statements -/

/-- Settles O25: the two branches of R150 after the wake. -/
theorem motionEdgeRestartsTheHoldTime : Obligations.MotionEdgeRestartsTheHoldTime := by
  unfold Obligations.MotionEdgeRestartsTheHoldTime
  intro s
  have hexec : exec .motionEdge s = .next s.beginOp.wake.motionEdge := exec_of_interrupt rfl s
  refine ⟨fun hlock => ?_, fun hlock => ?_⟩
  · rw [hexec, State.motionEdge_of_not_lockout (s := s.beginOp.wake) hlock]
    rfl
  · rw [hexec, State.motionEdge_of_lockout (s := s.beginOp.wake) hlock]
    rfl

/-- Settles O26: the equation of MOTION_TICK, after the strobes have fallen. -/
theorem motionTickClearsOnExpiry : Obligations.MotionTickClearsOnExpiry := by
  unfold Obligations.MotionTickClearsOnExpiry
  intro s
  exact congrArg Host.Outcome.next (State.motionTick_eq s.beginOp)

/-- Settles O27: the edge starts the invariant, the run keeps it, and the last MOTION_TICK reads it. -/
theorem monostableLaw : Obligations.MonostableLaw := by
  unfold Obligations.MonostableLaw
  intro s e ops hlock hedge hruns
  rw [exec_of_interrupt rfl] at hedge
  injection hedge with hedge
  have hstart : e.HoldLeft s.cfg.holdMs.toNat :=
    hedge ▸ State.motionEdge_holdLeft (s := s.beginOp.wake) hlock
  obtain ⟨t, hlist, ht⟩ := hstart.execList hruns
  have hleft : t.beginOp.HoldLeft (s.cfg.holdMs.toNat - ops.count .tick) := ht
  refine ⟨t, _, hlist, exec_eq .motionTick t, ht.1, ?_⟩
  exact hleft.motionTick_inMotion_eq_false_iff.trans Nat.sub_eq_zero_iff_le

end Sys2Proof.Machine
end

section
/-! Proofs/Button.lean: BUTTON_EDGE and BTN_CONSUME as equations, the lock-out without motion and the held button as
invariants of a run, and the statements of 43_button_classifier.md that follow. -/

namespace Sys2Proof.Machine

/-! ## A button edge (R160, R161) -/

section
variable {s : State} {level : Bool}

/-- R161: the edge-only filter. -/
theorem State.buttonEdge_of_seen (h : level = s.lastLevel) : s.buttonEdge level = s := if_pos h

theorem State.buttonEdge_of_press (hedge : level ≠ s.lastLevel) (hclosed : level = s.cfg.closed) :
    s.buttonEdge level = State.pressEdge { s with lastLevel := level } :=
  (if_neg hedge).trans (if_pos hclosed)

theorem State.buttonEdge_of_release (hedge : level ≠ s.lastLevel) (hopen : level ≠ s.cfg.closed) :
    s.buttonEdge level = State.releaseEdge { s with lastLevel := level } :=
  (if_neg hedge).trans (if_neg hopen)

theorem State.releaseEdge_of_not_depressed (h : s.depressed = false) : s.releaseEdge = s := if_neg (by simp [h])

/-- R162 in the pending class: the long timer is tested first, and None stores nothing. -/
theorem State.releaseEdge_of_depressed (h : s.depressed = true) :
    s.releaseEdge = { s with
      depressed := false
      pressClass :=
        if s.longTimer.toNat = 0 then .long else if s.shortTimer.toNat = 0 then .short else s.pressClass } := by
  have hzero (timer : Half) : timer = 0 ↔ timer.toNat = 0 := BitVec.toNat_eq
  rw [State.releaseEdge, if_pos h, State.classify]
  simp only [hzero]
  by_cases hlong : s.longTimer.toNat = 0
  · simp [hlong]
  · by_cases hshort : s.shortTimer.toNat = 0 <;> simp [hlong, hshort]

/-! ## The pending class consumed (R163, R164, R165) -/

theorem State.btnConsume_of_none (h : s.pressClass = .none ∨ s.pressClass = .three) :
    s.btnConsume = { s with pressClass := .none } := by
  rcases h with h | h <;> simp only [State.btnConsume, h]

theorem State.btnConsume_of_short (h : s.pressClass = .short) :
    s.btnConsume = State.shortAction { s with pressClass := .none } := by simp only [State.btnConsume, h]

theorem State.btnConsume_of_long (h : s.pressClass = .long) :
    s.btnConsume = State.longAction { s with pressClass := .none } := by simp only [State.btnConsume, h]

/-- R165: of the press classes Long alone toggles the lock-out. -/
theorem State.btnConsume_keeps_lockout (h : s.pressClass ≠ .long) : s.btnConsume.lockout = s.lockout := by
  cases hclass : s.pressClass with
  | none => rw [State.btnConsume_of_none (.inl hclass)]
  | short => rw [State.btnConsume_of_short hclass, State.shortAction_lockout]
  | long => exact absurd hclass h
  | three => rw [State.btnConsume_of_none (.inr hclass)]

/-- R164: a Short press writes the mode, DC and the ports that present it. -/
theorem State.shortAction_eq (s : State) :
    s.shortAction = { s with
      halfBrightness := !s.halfBrightness, dc := s.shortAction.dc, dcOut := s.shortAction.dcOut, dcWrite := true } := by
  simp [State.ext_iff]

theorem State.vector_length (s : State) (sp : Space) : (s.vector sp).length = s.cfg.n := by simp [State.vector]

theorem State.vector_getElem? {ch : Nat} (sp : Space) (h : ch < s.cfg.n) :
    (s.vector sp)[ch]? = some (s.memRead sp ch) := by simp [State.vector, h]

end

/-! ## What a run keeps -/

/-- The induction over a run: when every operation that is not `bad` keeps `P`, whose index counts the TICKs, then a
run that avoids `bad` ends in a state with `P`. -/
theorem execList_of_runAvoids {bad : Instr → State → Bool} {P : Nat → State → Prop}
    (hstep : ∀ {i s t k}, P k s → bad i s = false → exec i s = .next t → P (k + if i == .tick then 1 else 0) t)
    {ops : List Instr} {s : State} {k : Nat} (h : P k s) (hruns : runAvoids bad ops s = true) :
    ∃ t, execList ops s = .next t ∧ P (k + ops.count .tick) t := by
  induction ops generalizing s k with
  | nil => exact ⟨s, rfl, h⟩
  | cons i is ih =>
    have hexec := exec_eq i s
    obtain ⟨hbad, hrest⟩ := (runAvoids_cons_of_exec hexec is).1 hruns
    obtain ⟨t, hlist, ht⟩ := ih (hstep h hbad hexec) hrest
    refine ⟨t, (execList_cons_of_exec hexec is).trans hlist, ?_⟩
    rwa [List.count_cons, Nat.add_comm (is.count _), ← Nat.add_assoc]

/-- A run avoids what none of its operations is, in whatever state it is performed. -/
theorem runAvoids_of_forall_mem {bad : Instr → State → Bool} {ops : List Instr}
    (h : ∀ i ∈ ops, ∀ s, bad i s = false) (s : State) : runAvoids bad ops s = true := by
  induction ops generalizing s with
  | nil => rfl
  | cons i is ih =>
    exact (runAvoids_cons_of_exec (exec_eq i s) is).2
      ⟨h i List.mem_cons_self s, ih (fun j hj => h j (List.mem_cons_of_mem i hj)) _⟩

/-! ## Locked out and dark (R150, R165) -/

/-- The lock-out is on and the motion flag off. -/
def State.LockedDark (s : State) : Prop := s.lockout = true ∧ s.inMotion = false

section
variable {s t : State}

theorem State.LockedDark.congr (h : s.LockedDark) (hlock : t.lockout = s.lockout) (hmotion : t.inMotion = s.inMotion) :
    t.LockedDark := by
  simpa only [State.LockedDark, hlock, hmotion] using h

theorem State.LockedDark.motionTick (h : s.LockedDark) : s.motionTick.LockedDark :=
  ⟨(State.motionTick_lockout s).trans h.1, by rw [State.motionTick_inMotion, h.2, Bool.false_and]⟩

theorem State.LockedDark.btnConsume (h : s.LockedDark) (hlong : s.pressClass ≠ .long) : s.btnConsume.LockedDark :=
  h.congr (State.btnConsume_keeps_lockout hlong) (State.btnConsume_keeps_motion hlong).2

theorem State.LockedDark.poll (h : s.LockedDark) (hlong : s.asleep = false → s.pressClass ≠ .long) :
    s.poll.LockedDark := by
  unfold State.poll
  split
  next => exact h
  next hawake => exact (h.btnConsume (hlong (by simpa using hawake))).motionTick.congr (by simp) (by simp)

/-- A motion edge finds the lock-out on; what else could end the darkness is a Long press or RESET. -/
theorem State.LockedDark.effect {i : Instr} (h : s.LockedDark) (hlong : consumesLong i s = false)
    (hreset : i ≠ .reset) : (effect i s).LockedDark := by
  cases i with
  | reset => exact absurd rfl hreset
  | motionEdge =>
    rw [Machine.effect, State.motionEdge_of_lockout (s := s.wake) h.1]
    exact h
  | poll => exact h.poll (by simpa [consumesLong] using hlong)
  | motionTick => exact h.motionTick
  | btnConsume => exact h.btnConsume (by simpa [consumesLong] using hlong)
  | _ => exact h.congr (by simp [Machine.effect]) (by simp [Machine.effect])

theorem State.LockedDark.exec {i : Instr} (h : s.LockedDark) (hlong : consumesLong i s = false) (hreset : i ≠ .reset)
    (hexec : exec i s = .next t) : t.LockedDark := by
  rcases exec_cases hexec with ⟨-, rfl⟩ | ⟨-, rfl⟩
  · exact State.LockedDark.effect (s := s.beginOp) h hlong hreset
  · exact h

end

/-! ## A button that is held (R162, R166) -/

/-- The operations that may end a press: a button edge and RESET (R160, R216). -/
def endsPress (i : Instr) : Bool :=
  i == .reset || i == .buttonEdge false || i == .buttonEdge true

/-- Under `c` the button is down, and `k` TICKs have passed since its press edge loaded both timers. -/
structure State.HeldFor (c : Config) (k : Nat) (s : State) : Prop where
  cfg : s.cfg = c
  lastLevel : s.lastLevel = c.closed
  depressed : s.depressed = true
  shortTimer : s.shortTimer.toNat = c.shortMs.toNat - k
  longTimer : s.longTimer.toNat = c.longMs.toNat - k

section
variable {s t : State} {c : Config} {k : Nat}

/-- R160: the press edge starts the count. -/
theorem State.buttonEdge_heldFor (h : s.cfg.closed ≠ s.lastLevel) : (s.buttonEdge s.cfg.closed).HeldFor s.cfg 0 := by
  rw [State.buttonEdge_of_press h rfl]
  exact ⟨rfl, rfl, rfl, rfl, rfl⟩

/-- R210: a TICK takes one off both timers, down to 0. -/
theorem State.HeldFor.tick (h : s.HeldFor c k) : s.tick.HeldFor c (k + 1) where
  cfg := h.cfg
  lastLevel := h.lastLevel
  depressed := h.depressed
  shortTimer := by rw [State.tick_shortTimer, dec_toNat, h.shortTimer, Nat.sub_sub]
  longTimer := by rw [State.tick_longTimer, dec_toNat, h.longTimer, Nat.sub_sub]

theorem State.HeldFor.of_leavesInterruptSide (h : s.HeldFor c k) (hcfg : t.cfg = s.cfg)
    (hleaves : s.LeavesInterruptSide t) : t.HeldFor c k where
  cfg := hcfg.trans h.cfg
  lastLevel := hleaves.lastLevel.trans h.lastLevel
  depressed := hleaves.depressed.trans h.depressed
  shortTimer := by rw [hleaves.shortTimer, h.shortTimer]
  longTimer := by rw [hleaves.longTimer, h.longTimer]

theorem State.HeldFor.beginOp (h : s.HeldFor c k) : s.beginOp.HeldFor c k := { h with }

theorem State.HeldFor.wake (h : s.HeldFor c k) : s.wake.HeldFor c k := { h with }

/-- R72: the main loop leaves the button registers alone; of the rest only TICK, a button edge and RESET write them. -/
theorem State.HeldFor.effect {i : Instr} (h : s.HeldFor c k) (htick : i ≠ .tick) (hends : endsPress i = false) :
    (effect i s).HeldFor c k := by
  cases i with
  | tick => exact absurd rfl htick
  | reset => simp [endsPress] at hends
  | buttonEdge level => cases level <;> simp [endsPress] at hends
  | refresh | status => exact { h with }
  | motionEdge =>
    obtain ⟨hcfg, hlevel, hdepressed, hshort, hlong⟩ := h
    constructor <;> simpa [Machine.effect]
  | _ => exact h.of_leavesInterruptSide (effect_cfg _ s) (effect_leavesInterruptSide rfl s)

theorem State.HeldFor.exec {i : Instr} (h : s.HeldFor c k) (hends : endsPress i = false)
    (hexec : exec i s = .next t) : t.HeldFor c (k + if i == .tick then 1 else 0) := by
  by_cases htick : i = .tick
  · subst htick
    injection hexec with hexec
    subst hexec
    exact h.beginOp.wake.tick
  · simp only [beq_eq_false_iff_ne.2 htick, Bool.false_eq_true, if_false, Nat.add_zero]
    rcases exec_cases hexec with ⟨-, rfl⟩ | ⟨-, rfl⟩
    · exact h.beginOp.effect htick hends
    · exact h.beginOp.of_leavesInterruptSide rfl (State.raiseRefused_leavesInterruptSide s)

/-- R162: the release edge reads the class off the TICKs counted. -/
theorem State.HeldFor.release (h : s.HeldFor c k) :
    s.buttonEdge (!c.closed) = { s with
      lastLevel := !c.closed
      depressed := false
      pressClass :=
        if c.longMs.toNat ≤ k then .long else if c.shortMs.toNat ≤ k then .short else s.pressClass } := by
  have hedge : (!c.closed) ≠ s.lastLevel := by simp [h.lastLevel]
  have hopen : (!c.closed) ≠ s.cfg.closed := by simp [h.cfg]
  refine ((State.buttonEdge_of_release hedge hopen).trans (State.releaseEdge_of_depressed h.depressed)).trans ?_
  simp only [h.longTimer, h.shortTimer, Nat.sub_eq_zero_iff_le]

end

/-! ## The statements -/

/-- Settles O29: a run without a Long press consumed and without RESET keeps `State.LockedDark`. -/
theorem lockoutSuppressesMotionUntilLongPress : Obligations.LockoutSuppressesMotionUntilLongPress := by
  unfold Obligations.LockoutSuppressesMotionUntilLongPress
  intro s ops hlock hmotion hruns
  have hdark : s.LockedDark := ⟨hlock, hmotion⟩
  refine execList_of_runAvoids (P := fun _ u => u.LockedDark) (k := 0) (fun h hbad hexec => ?_) hdark hruns
  obtain ⟨hlong, hreset⟩ := Bool.or_eq_false_iff.1 hbad
  exact h.exec hlong (beq_eq_false_iff_ne.1 hreset) hexec

/-- Settles O31: the press edge starts `State.HeldFor`, the run counts its TICKs, and the release edge reads the timers
they have left. -/
theorem pressClassFollowsItsDuration : Obligations.PressClassFollowsItsDuration := by
  unfold Obligations.PressClassFollowsItsDuration
  intro s ops hup hops
  have hpress : exec (pseudoPress s.cfg) s = .next (s.beginOp.wake.buttonEdge s.cfg.closed) :=
    exec_of_interrupt rfl s
  have hstart : (s.beginOp.wake.buttonEdge s.cfg.closed).HeldFor s.cfg 0 :=
    State.buttonEdge_heldFor (s := s.beginOp.wake) (by simp [hup])
  have hruns : runAvoids (fun i _ => endsPress i) ops (s.beginOp.wake.buttonEdge s.cfg.closed) = true :=
    runAvoids_of_forall_mem (fun i hi _ => by simp [endsPress, hops i hi]) _
  obtain ⟨u, hlist, hheld⟩ := execList_of_runAvoids (P := State.HeldFor s.cfg) State.HeldFor.exec hstart hruns
  rw [Nat.zero_add] at hheld
  have hrelease : exec (pseudoRelease s.cfg) u = .next (u.beginOp.wake.buttonEdge (!s.cfg.closed)) :=
    exec_of_interrupt rfl u
  rw [State.HeldFor.release (s := u.beginOp.wake) hheld.beginOp.wake] at hrelease
  exact ⟨u, _, (execList_cons_of_exec hpress ops).trans hlist, hrelease, rfl, hheld.shortTimer, hheld.longTimer,
    fun hlong => if_pos hlong,
    fun hshort hlong => (if_neg (Nat.not_le.2 hlong)).trans (if_pos hshort),
    fun hshort hlong => (if_neg (Nat.not_le.2 hlong)).trans (if_neg (Nat.not_le.2 hshort))⟩

/-- Settles O33: DC by `State.memRead_shortAction`, `dc_out` as the vector of that DC, all else by the frame of the
Short press. -/
theorem consumeShortRewritesDotCorrection : Obligations.ConsumeShortRewritesDotCorrection := by
  unfold Obligations.ConsumeShortRewritesDotCorrection
  intro s hclass hform
  have hexec : exec .btnConsume s = .next (State.shortAction { s.beginOp with pressClass := .none }) :=
    congrArg Host.Outcome.next (State.btnConsume_of_short (s := s.beginOp) hclass)
  have hread := State.memRead_shortAction { s.beginOp with pressClass := .none } hform.1
  refine ⟨_, hexec, State.shortAction_eq _, fun ch hch => ?_, fun ch hch => ?_, ?_, fun ch hch => ?_⟩
  · exact (hread ch).trans (if_pos hch)
  · exact (hread ch).trans (if_neg (Nat.not_lt.2 hch))
  · rw [State.shortAction_dcOut, State.vector_length, State.shortAction_cfg]
    rfl
  · rw [State.shortAction_dcOut]
    exact State.vector_getElem? .dc (by simpa using hch)

/-- Settles O30: the four branches of R160 after the wake. -/
theorem buttonEdgeClassifiesARelease : Obligations.ButtonEdgeClassifiesARelease := by
  unfold Obligations.ButtonEdgeClassifiesARelease
  intro s level
  have hexec : exec (.buttonEdge level) s = .next (s.beginOp.wake.buttonEdge level) := exec_of_interrupt rfl s
  rw [hexec]
  refine ⟨fun hseen => ?_, fun hedge hclosed => ?_, fun hedge hopen hdown => ?_, fun hedge hopen hup => ?_⟩
  · exact congrArg Host.Outcome.next (State.buttonEdge_of_seen (s := s.beginOp.wake) hseen)
  · exact congrArg Host.Outcome.next (State.buttonEdge_of_press (s := s.beginOp.wake) hedge hclosed)
  · exact congrArg Host.Outcome.next
      ((State.buttonEdge_of_release (s := s.beginOp.wake) hedge hopen).trans (State.releaseEdge_of_depressed hdown))
  · exact congrArg Host.Outcome.next
      ((State.buttonEdge_of_release (s := s.beginOp.wake) hedge hopen).trans (State.releaseEdge_of_not_depressed hup))

/-- Settles O32: the arms of R163 other than Short; `longAction` writes the toggle as an `if`. -/
theorem consumeNoneOrLong : Obligations.ConsumeNoneOrLong := by
  unfold Obligations.ConsumeNoneOrLong
  intro s
  refine ⟨fun hclass => ?_, fun hclass => ?_⟩
  · exact congrArg Host.Outcome.next (State.btnConsume_of_none (s := s.beginOp) hclass)
  · refine congrArg Host.Outcome.next ((State.btnConsume_of_long (s := s.beginOp) hclass).trans ?_)
    cases hcfg : s.cfg.longLockout <;> simp [State.longAction, hcfg]

end Sys2Proof.Machine
end

section
/-! Proofs/Scheduler.lean: what the three transitions of SCHED_STEP that start or stop a light write, SCHED_STEP as one
equation for each row of its table, the fade timers over a run of TICKs, and the statements of 44_scheduler.md that
follow. -/

namespace Sys2Proof.Machine

/-! ## A fade begun in the ambient zones only -/

/-- A zone that is ambient and not settled at the goal is restarted, any other is left (R131, R132, R182, R184). -/
theorem Zone.ite_retarget (P : Prop) [Decidable P] (r : Zone) (goal d : Half) :
    (if P then r.retarget goal d else r) =
      if P ∧ ¬(r.level = goal ∧ r.target = goal)
      then { cur := r.level, fromLevel := r.level, target := goal, dur := d, elapsed := 0 } else r := by
  by_cases hP : P
  · rw [if_pos hP, Zone.retarget]
    simp only [hP, true_and, ite_not]
  · rw [if_neg hP, if_neg fun h => hP h.1]

/-! ## The transitions that write more than `sched` (R182, R183, R184) -/

section
variable (s : State)

@[simp] theorem State.motionBegins_sched : s.motionBegins.sched = .fadingIn := by
  unfold State.motionBegins
  split <;> simp

@[simp] theorem State.motionBegins_fadeInTimer : s.motionBegins.fadeInTimer = s.cfg.fadeMs := by
  unfold State.motionBegins
  split <;> simp

theorem State.motionBegins_zones : s.motionBegins.zones = s.ambientOn.zones := by
  unfold State.motionBegins
  split <;> simp

@[simp] theorem State.fadeInDone_sched : s.fadeInDone.sched = .steadyOn := by
  unfold State.fadeInDone
  split <;> simp

/-- R183: of the registers only `sched` and the generators move. -/
theorem State.fadeInDone_eq : s.fadeInDone = { s with sched := .steadyOn, gens := s.fadeInDone.gens } :=
  State.ext_iff.2 (by simp)

@[simp] theorem State.motionEnds_sched : s.motionEnds.sched = .fadingOut := rfl

@[simp] theorem State.motionEnds_fadeOutTimer : s.motionEnds.fadeOutTimer = s.cfg.fadeMs := rfl

theorem State.motionEnds_zones : s.motionEnds.zones = s.ambientOff.zones := State.stopAll_zones s.ambientOff

end

section
variable {s : State} {z g : Nat}

theorem State.motionBegins_zone (h : s.shaped) (hz : z < s.cfg.nz) :
    s.motionBegins.zone z =
      if (s.cfg.zoneCfg z).src = .fade then (s.zone z).retarget s.cfg.maxLevel s.cfg.fadeMs else s.zone z := by
  rw [State.zone, State.motionBegins_zones]
  refine (State.ambientOn_zone s h z).trans ?_
  simp only [mem_ambientZones, hz, true_and]

theorem State.motionEnds_zone (h : s.shaped) (hz : z < s.cfg.nz) :
    s.motionEnds.zone z =
      if (s.cfg.zoneCfg z).src = .fade then (s.zone z).retarget 0 s.cfg.fadeMs else s.zone z := by
  rw [State.zone, State.motionEnds_zones]
  refine (State.ambientOff_zone s h z).trans ?_
  simp only [mem_ambientZones, hz, true_and]

/-- In `motionBegins` and `fadeInDone` other writes come before the generators start; they leave the generators'
registers, so these start from what the transition found. -/
theorem State.startAll_gen_of_gens {t : State} (h : s.shaped) (hg : g < s.cfg.ng) (hcfg : t.cfg = s.cfg)
    (hzones : t.zones.length = s.zones.length) (hgens : t.gens = s.gens) : t.startAll.gen g = (s.gen g).start := by
  have hshape : t.shaped := by simpa only [State.shaped, hcfg, hzones, hgens] using h
  rw [State.startAll_gen t hshape, if_pos (hcfg ▸ hg), State.gen, hgens]
  rfl

theorem State.motionBegins_gen (h : s.shaped) (hg : g < s.cfg.ng) :
    s.motionBegins.gen g = if s.cfg.gate then s.gen g else (s.gen g).start := by
  unfold State.motionBegins
  dsimp only
  split
  · simp [State.gen]
  · exact State.startAll_gen_of_gens h hg (by simp) (State.ambientOn_length s) (by simp)

theorem State.fadeInDone_gen (h : s.shaped) (hg : g < s.cfg.ng) :
    s.fadeInDone.gen g = if s.cfg.gate then (s.gen g).start else s.gen g := by
  unfold State.fadeInDone
  dsimp only
  split
  · exact State.startAll_gen_of_gens h hg rfl rfl rfl
  · rfl

/-- The loop over the zones comes first and leaves the generators. -/
theorem State.motionEnds_gen (h : s.shaped) (hg : g < s.cfg.ng) :
    s.motionEnds.gen g = (s.gen g).stop s.cfg (s.cfg.genCfg g) := by
  have hshape : s.ambientOff.shaped := by simpa [State.shaped, State.ambientOff_length] using h
  refine (State.stopAll_gen s.ambientOff hshape g).trans ?_
  simp [State.gen, hg]

end

/-! ## The sleep request (R187) -/

theorem State.noneStopping_iff {s : State} :
    s.noneStopping = true ↔ ∀ g < s.cfg.ng, (s.gen g).mode ≠ .stopping := by
  simp [State.noneStopping]

theorem State.sleepCondition_iff {s : State} :
    s.sleepCondition = true ↔ s.sched = .idle ∧ s.inMotion = false ∧ s.depressed = false ∧ s.pressClass = .none ∧
      ∀ g < s.cfg.ng, (s.gen g).mode ≠ .stopping := by
  simp only [State.sleepCondition, Bool.and_eq_true, beq_iff_eq, Bool.not_eq_true', State.noneStopping_iff, and_assoc]

theorem State.sleepRequest_eq (s : State) : s.sleepRequest = { s with asleep := s.asleep || s.sleepCondition } := by
  unfold State.sleepRequest
  split
  next hsleep => simp [hsleep]
  next hawake => simp [hawake]

/-- Outside Idle no sleep is requested. -/
theorem State.sleepRequest_of_not_idle {s : State} (h : s.sched ≠ .idle) : s.sleepRequest = s :=
  if_neg fun hsleep => h (State.sleepCondition_iff.1 hsleep).1

/-! ## SCHED_STEP, one equation for each row of the table (R188) -/

section
variable {s : State}

theorem exec_schedStep (s : State) : exec .schedStep s = .next s.beginOp.schedStep := exec_eq .schedStep s

/-- A transition that ends outside Idle is the whole of the SCHED_STEP. -/
theorem State.schedStep_of_transition {t : State} (h : s.transition = t) (ht : t.sched ≠ .idle) : s.schedStep = t := by
  rw [State.schedStep, h, State.sleepRequest_of_not_idle ht]

theorem State.schedStep_of_motionBegins (hmotion : s.inMotion = true) (h : s.sched = .idle ∨ s.sched = .fadingOut) :
    s.schedStep = s.motionBegins := by
  refine State.schedStep_of_transition ?_ (by simp)
  rcases h with h | h <;> simp only [State.transition, h, hmotion, if_true]

theorem State.schedStep_of_fadeInDone (hmotion : s.inMotion = true) (h : s.sched = .fadingIn)
    (htimer : s.fadeInTimer = 0) : s.schedStep = s.fadeInDone := by
  refine State.schedStep_of_transition ?_ (by simp)
  simp only [State.transition, h, hmotion, htimer, if_true]

/-- While motion lasts, a fade-in with time left and SteadyOn stay. -/
theorem State.schedStep_of_stays (hmotion : s.inMotion = true)
    (h : (s.sched = .fadingIn ∧ s.fadeInTimer ≠ 0) ∨ s.sched = .steadyOn) : s.schedStep = s := by
  rcases h with ⟨h, htimer⟩ | h
  · refine State.schedStep_of_transition ?_ (by simp [h])
    simp only [State.transition, h, hmotion, htimer, if_true, if_false]
  · refine State.schedStep_of_transition ?_ (by simp [h])
    simp only [State.transition, h, hmotion, if_true]

/-- R184: without motion a fade-in ends whatever its timer holds. -/
theorem State.schedStep_of_motionEnds (hmotion : s.inMotion = false) (h : s.sched = .fadingIn ∨ s.sched = .steadyOn) :
    s.schedStep = s.motionEnds := by
  refine State.schedStep_of_transition ?_ (by simp)
  rcases h with h | h <;> simp only [State.transition, h, hmotion, Bool.false_eq_true, if_false]

/-- Where `sched` stands after a SCHED_STEP that finds the lights out or fading out and no motion (R185). -/
def State.darkSched (s : State) : Sched :=
  if s.sched = .fadingOut ∧ s.fadeOutTimer ≠ 0 then .fadingOut else .idle

theorem State.transition_of_dark (hmotion : s.inMotion = false) (h : s.sched = .idle ∨ s.sched = .fadingOut) :
    s.transition = { s with sched := s.darkSched } := by
  rcases h with h | h
  · have hstays : s.darkSched = s.sched := by rw [State.darkSched, h]; rfl
    have htransition : s.transition = s := by simp only [State.transition, h, hmotion, Bool.false_eq_true, if_false]
    rw [htransition, hstays]
  · by_cases htimer : s.fadeOutTimer = 0
    · have hidle : s.darkSched = .idle := if_neg fun hleft => hleft.2 htimer
      rw [hidle]
      simp only [State.transition, h, hmotion, htimer, Bool.false_eq_true, if_false, if_true]
    · have hstays : s.darkSched = s.sched := (if_pos ⟨h, htimer⟩).trans h.symm
      have htransition : s.transition = s := by
        simp only [State.transition, h, hmotion, htimer, Bool.false_eq_true, if_false]
      rw [htransition, hstays]

/-- R185, R187: the sleep condition is read in the state reached. -/
theorem State.schedStep_of_dark (hmotion : s.inMotion = false) (h : s.sched = .idle ∨ s.sched = .fadingOut) :
    s.schedStep = { s with
      sched := s.darkSched, asleep := s.asleep || State.sleepCondition { s with sched := s.darkSched } } := by
  rw [State.schedStep, State.transition_of_dark hmotion h, State.sleepRequest_eq]

/-- The frame of SCHED_STEP (R188). -/
theorem State.schedStep_eq (s : State) :
    s.schedStep = { s with
      sched := s.schedStep.sched, fadeInTimer := s.schedStep.fadeInTimer, fadeOutTimer := s.schedStep.fadeOutTimer,
      asleep := s.schedStep.asleep, zones := s.schedStep.zones, gens := s.schedStep.gens } :=
  State.ext_iff.2 (by simp)

end

/-! ## The fade timers and the fades under TICKs (R186) -/

/-- R210: each TICK takes one off both timers, down to 0. -/
theorem State.afterTicks_fadeTimers (k : Nat) (s : State) :
    (s.afterTicks k).fadeInTimer.toNat = s.fadeInTimer.toNat - k ∧
      (s.afterTicks k).fadeOutTimer.toNat = s.fadeOutTimer.toNat - k := by
  induction k generalizing s with
  | zero => exact ⟨rfl, rfl⟩
  | succ k ih =>
    obtain ⟨hin, hout⟩ := ih s.beginOp.wake.tick
    rw [State.tick_fadeInTimer, dec_toNat, Nat.sub_sub, Nat.add_comm 1 k] at hin
    rw [State.tick_fadeOutTimer, dec_toNat, Nat.sub_sub, Nat.add_comm 1 k] at hout
    exact ⟨hin, hout⟩

/-- A fade that restarted `k` TICKs ago against a timer that was loaded with its duration at the same time: the one
counts up to the duration while the other counts down to 0. -/
theorem Zone.iterate_tick_retarget_timer {r : Zone} {goal d timer : Half} {k : Nat}
    (h : ¬(r.level = goal ∧ r.target = goal)) (htimer : timer.toNat = d.toNat - k) :
    (Zone.tick^[k] (r.retarget goal d)).dur = d ∧
      (Zone.tick^[k] (r.retarget goal d)).elapsed.toNat = min k d.toNat ∧
      (timer = 0 ↔ (Zone.tick^[k] (r.retarget goal d)).elapsed = (Zone.tick^[k] (r.retarget goal d)).dur) ∧
      (timer = 0 → (Zone.tick^[k] (r.retarget goal d)).level = goal) := by
  obtain ⟨hframe, helapsed⟩ := Zone.iterate_tick (r := r.retarget goal d)
    (by rw [Zone.retarget_of_not_settled h]; exact Nat.zero_le _) k
  rw [Zone.retarget_of_not_settled h] at hframe helapsed ⊢
  generalize Zone.tick^[k] _ = u at hframe helapsed ⊢
  have hdur : u.dur = d := by rw [hframe]
  have htarget : u.target = goal := by rw [hframe]
  have helapsed : u.elapsed.toNat = min k d.toNat := by simpa using helapsed
  have hzero : timer = 0 ↔ u.elapsed = u.dur := by
    rw [BitVec.toNat_eq, BitVec.toNat_eq, htimer, helapsed, hdur]
    simp only [BitVec.ofNat_eq_ofNat, BitVec.toNat_ofNat, Nat.zero_mod]
    omega
  exact ⟨hdur, helapsed, hzero, fun h0 => htarget ▸ Zone.level_of_done (congrArg BitVec.toNat (hzero.1 h0)).ge⟩

/-! ## The statements -/

/-- Settles O55: the transition loads the timer and restarts the ambient zones with the same duration, and the TICKs
move both. -/
theorem fadeTimerRunsWithTheFades : Obligations.FadeTimerRunsWithTheFades := by
  unfold Obligations.FadeTimerRunsWithTheFades
  intro s k hshape runsTogether
  have hrun {t : State} (ht : s.beginOp.schedStep = t) :
      execList (.schedStep :: pseudoTicks k) s = .next (t.afterTicks k) :=
    execList_cons_pseudoTicks (ht ▸ exec_schedStep s) k
  refine ⟨fun hmotion hsched => ⟨_, hrun (State.schedStep_of_motionBegins hmotion hsched), ?_⟩,
    fun hmotion hsched => ⟨_, hrun (State.schedStep_of_motionEnds hmotion hsched), ?_⟩⟩
  · obtain ⟨htimer, -⟩ := State.afterTicks_fadeTimers k s.beginOp.motionBegins
    rw [State.motionBegins_fadeInTimer] at htimer
    refine ⟨htimer, fun z hz hsrc hnot => ?_⟩
    have hzone := (State.motionBegins_zone (s := s.beginOp) hshape hz).trans (if_pos hsrc)
    rw [State.afterTicks_zone, hzone]
    exact Zone.iterate_tick_retarget_timer hnot htimer
  · obtain ⟨-, htimer⟩ := State.afterTicks_fadeTimers k s.beginOp.motionEnds
    rw [State.motionEnds_fadeOutTimer] at htimer
    refine ⟨htimer, fun z hz hsrc hnot => ?_⟩
    have hzone := (State.motionEnds_zone (s := s.beginOp) hshape hz).trans (if_pos hsrc)
    rw [State.afterTicks_zone, hzone]
    exact Zone.iterate_tick_retarget_timer hnot htimer

/-- Settles O50: the frame, and each row of the table by the equation of SCHED_STEP for it. -/
theorem schedulerTransitionTable : Obligations.SchedulerTransitionTable := by
  unfold Obligations.SchedulerTransitionTable
  intro s
  refine ⟨_, exec_schedStep s, State.schedStep_eq s.beginOp, State.schedStep_zones_length s.beginOp,
    State.schedStep_gens_length s.beginOp, ?_⟩
  cases hmotion : s.inMotion with
  | true =>
    cases hsched : s.sched with
    | idle => rw [State.schedStep_of_motionBegins (s := s.beginOp) hmotion (.inl hsched), State.motionBegins_sched]
    | fadingOut => rw [State.schedStep_of_motionBegins (s := s.beginOp) hmotion (.inr hsched), State.motionBegins_sched]
    | steadyOn => rw [State.schedStep_of_stays (s := s.beginOp) hmotion (.inr hsched), State.beginOp_sched, hsched]
    | fadingIn =>
      dsimp only
      split
      next htimer =>
        rw [State.schedStep_of_fadeInDone (s := s.beginOp) hmotion hsched htimer, State.fadeInDone_sched]
      next htimer =>
        rw [State.schedStep_of_stays (s := s.beginOp) hmotion (.inl ⟨hsched, htimer⟩), State.beginOp_sched, hsched]
  | false =>
    cases hsched : s.sched with
    | fadingIn => rw [State.schedStep_of_motionEnds (s := s.beginOp) hmotion (.inl hsched), State.motionEnds_sched]
    | steadyOn => rw [State.schedStep_of_motionEnds (s := s.beginOp) hmotion (.inr hsched), State.motionEnds_sched]
    | idle =>
      rw [State.schedStep_of_dark (s := s.beginOp) hmotion (.inl hsched)]
      simp [State.darkSched, hsched]
    | fadingOut =>
      rw [State.schedStep_of_dark (s := s.beginOp) hmotion (.inr hsched)]
      by_cases htimer : s.fadeOutTimer = 0 <;> simp [State.darkSched, hsched, htimer]

/-- Settles O51: the step is `State.motionBegins`, and `Zone.retarget` restarts what is not settled at MAX. -/
theorem motionBeginsFadesIn : Obligations.MotionBeginsFadesIn := by
  unfold Obligations.MotionBeginsFadesIn
  intro s hshape hmotion hsched
  refine ⟨s.beginOp.motionBegins, ?_, State.motionBegins_sched _, State.motionBegins_fadeInTimer _,
    State.motionBegins_fadeOutTimer _, State.motionBegins_asleep _, fun z hz => ?_,
    fun g hg => State.motionBegins_gen (s := s.beginOp) hshape hg⟩
  · rw [exec_schedStep, State.schedStep_of_motionBegins (s := s.beginOp) hmotion hsched]
  · exact (State.motionBegins_zone (s := s.beginOp) hshape hz).trans (Zone.ite_retarget _ _ _ _)

/-- Settles O52: the step is `State.fadeInDone` or nothing at all. -/
theorem fadeInCompleteStartsGenerators : Obligations.FadeInCompleteStartsGenerators := by
  unfold Obligations.FadeInCompleteStartsGenerators
  intro s hshape hmotion
  refine ⟨fun hsched htimer => ⟨s.beginOp.fadeInDone, ?_, State.fadeInDone_eq s.beginOp,
    fun g hg => State.fadeInDone_gen (s := s.beginOp) hshape hg⟩, fun hstays => ?_⟩
  · rw [exec_schedStep, State.schedStep_of_fadeInDone (s := s.beginOp) hmotion hsched htimer]
  · rw [exec_schedStep, State.schedStep_of_stays (s := s.beginOp) hmotion hstays]
    rfl

/-- Settles O53: the step is `State.motionEnds`; each generator gets what GEN_STOP alone gives it. -/
theorem motionEndsFadesOut : Obligations.MotionEndsFadesOut := by
  unfold Obligations.MotionEndsFadesOut
  intro s hshape hmotion hsched
  refine ⟨s.beginOp.motionEnds, ?_, State.motionEnds_sched _, State.motionEnds_fadeOutTimer _,
    State.motionEnds_fadeInTimer _, State.motionEnds_asleep _, fun z hz => ?_,
    fun idx hidx => ⟨_, exec_genStop hidx, ?_⟩⟩
  · rw [exec_schedStep, State.schedStep_of_motionEnds (s := s.beginOp) hmotion hsched]
  · exact (State.motionEnds_zone (s := s.beginOp) hshape hz).trans (Zone.ite_retarget _ _ _ _)
  · rw [State.motionEnds_gen (s := s.beginOp) hshape hidx, State.genStop_gen_same (s := s.beginOp) (hshape.2 ▸ hidx)]

/-- Settles O54: in the dark SCHED_STEP writes `sched` and `asleep`, and the sleep condition finds no motion. -/
theorem idleRequestsSleep : Obligations.IdleRequestsSleep := by
  unfold Obligations.IdleRequestsSleep
  intro s hmotion hsched reached sleeps
  have hsleeps : State.sleepCondition { s.beginOp with sched := s.beginOp.darkSched } = true ↔ sleeps := by
    rw [State.sleepCondition_iff]
    exact and_congr_right fun _ => and_iff_right hmotion
  refine ⟨_, exec_schedStep s, ?_⟩
  rw [State.schedStep_of_dark (s := s.beginOp) hmotion hsched]
  refine ⟨rfl, ?_⟩
  rw [Bool.or_eq_true, hsleeps]
  rfl

end Sys2Proof.Machine
end

section
/-! Proofs/Events.lean: TICK on the counters of one zone and one generator, the flag word of STATUS, the parts of a POLL
as operations whose ports do not matter, FRAME as the last writer of a channel leaves it, and the statements of
45_top_level_events.md that follow. -/

namespace Sys2Proof.Machine

/-! ## The counters under TICK (R210) -/

theorem Zone.tick_elapsed_toNat (r : Zone) :
    r.tick.elapsed.toNat = if r.elapsed.toNat < r.dur.toNat then r.elapsed.toNat + 1 else r.elapsed.toNat := by
  split
  next hlt => exact Zone.tick_elapsed_of_lt hlt
  next hdone => rw [Zone.tick_of_done (Nat.le_of_not_lt hdone)]

section
variable {gc : GenCfg} {r : Gen}

/-- The phase stays below the period, so it fits 16 bits. -/
theorem Gen.tick_acc_of_running (hmode : r.mode = .running) (hp : 0 < gc.period.toNat) :
    (r.tick gc).acc.toNat = (r.acc.toNat + 1) % gc.period.toNat := by
  rw [Gen.tick_of_running hmode, BitVec.toNat_ofNat]
  exact Nat.mod_eq_of_lt ((Nat.mod_lt _ hp).trans gc.period.isLt)

theorem Gen.tick_acc_of_stopping (hmode : r.mode = .stopping) :
    (r.tick gc).acc.toNat = min (r.acc.toNat + 1) 65535 := by
  rw [Gen.tick_of_stopping hmode, BitVec.toNat_ofNat]
  omega

/-- R262: the pattern 3 stands still like STOPPED. -/
theorem Gen.tick_of_stopped (hmode : r.mode = .stopped ∨ r.mode = .three) : r.tick gc = r := by
  rcases hmode with hmode | hmode <;> simp only [Gen.tick, hmode]

end

/-! ## The flag word of STATUS (R217) -/

section
variable (s : State)

theorem State.statusWord_flags :
    s.statusWord.getLsbD 0 = s.inMotion ∧ s.statusWord.getLsbD 1 = s.depressed ∧
      s.statusWord.getLsbD 2 = s.halfBrightness ∧ s.statusWord.getLsbD 3 = s.lockout ∧
      s.statusWord.getLsbD 4 = s.asleep ∧ s.statusWord.getLsbD 9 = s.lastLevel := by
  simp only [State.statusWord, BitVec.getLsbD_setWidth, BitVec.getLsbD_append, BitVec.getLsbD_ofBool]
  simp

/-- The two 2-bit registers stand next to each other, `sched` below `pressClass`. -/
theorem State.statusWord_patterns :
    s.statusWord.extractLsb' 5 2 = s.sched.bits ∧ s.statusWord.extractLsb' 7 2 = s.pressClass.bits := by
  constructor
  all_goals
    apply BitVec.eq_of_getLsbD_eq
    intro i hi
    simp only [State.statusWord, BitVec.getLsbD_extractLsb', BitVec.getLsbD_setWidth, BitVec.getLsbD_append]
    obtain rfl | rfl : i = 0 ∨ i = 1 := by omega
    all_goals simp

theorem State.statusWord_rest : s.statusWord.extractLsb' 10 22 = 0 := by
  ext i hi
  simp [State.statusWord]

end

/-! ## No part of a POLL but BTN_CONSUME depends on the ports -/

section
variable (s : State)

/-- A loop each round of which is independent of the ports is independent of them. -/
theorem State.foldl_beginOp (round : State → Nat → State)
    (hround : ∀ t b, round t.beginOp b = (round t b).beginOp) (l : List Nat) :
    l.foldl round s.beginOp = (l.foldl round s).beginOp :=
  List.foldl_hom State.beginOp hround

theorem State.commit_beginOp (z : Nat) (v : Half) : s.beginOp.commit z v = (s.commit z v).beginOp :=
  State.foldl_beginOp s _ (fun _ _ => rfl) _

theorem State.genStep_beginOp (g : Nat) : s.beginOp.genStep g = (s.genStep g).beginOp :=
  State.foldl_beginOp (s.setGen g ((s.gen g).settle (s.genOutput g).1)) _ (fun t z => State.commit_beginOp t z _) _

theorem State.zoneRun_beginOp (z : Nat) : s.beginOp.zoneRun z = (s.zoneRun z).beginOp := by
  unfold State.zoneRun
  rw [State.beginOp_cfg]
  cases (s.cfg.zoneCfg z).src with
  | fade => exact State.commit_beginOp (s.setZone z { s.zone z with cur := (s.zone z).level }) z _
  | gen _ => rfl

theorem State.runZones_beginOp : s.beginOp.runZones = s.runZones.beginOp :=
  State.foldl_beginOp s _ State.zoneRun_beginOp _

theorem State.stepGens_beginOp : s.beginOp.stepGens = s.stepGens.beginOp :=
  State.foldl_beginOp s _ State.genStep_beginOp _

theorem State.motionTick_beginOp : s.beginOp.motionTick = s.motionTick.beginOp := by
  unfold State.motionTick
  rw [apply_ite State.beginOp]
  rfl

theorem State.startAll_beginOp : s.beginOp.startAll = s.startAll.beginOp :=
  State.foldl_beginOp s _ (fun _ _ => rfl) _

theorem State.motionBegins_beginOp : s.beginOp.motionBegins = s.motionBegins.beginOp := by
  have hambient : s.beginOp.ambientOn = s.ambientOn.beginOp := State.foldl_beginOp s _ (fun _ _ => rfl) _
  unfold State.motionBegins
  rw [hambient, apply_ite State.beginOp, ← State.startAll_beginOp]
  rfl

theorem State.fadeInDone_beginOp : s.beginOp.fadeInDone = s.fadeInDone.beginOp := by
  unfold State.fadeInDone
  rw [apply_ite State.beginOp, ← State.startAll_beginOp]
  rfl

theorem State.motionEnds_beginOp : s.beginOp.motionEnds = s.motionEnds.beginOp := by
  have hambient : s.beginOp.ambientOff = s.ambientOff.beginOp := State.foldl_beginOp s _ (fun _ _ => rfl) _
  have hstop : s.ambientOff.beginOp.stopAll = s.ambientOff.stopAll.beginOp :=
    State.foldl_beginOp s.ambientOff _ (fun _ _ => rfl) _
  unfold State.motionEnds
  rw [hambient, hstop]
  rfl

theorem State.schedStep_beginOp : s.beginOp.schedStep = s.schedStep.beginOp := by
  have htransition : s.beginOp.transition = s.transition.beginOp := by
    unfold State.transition
    rw [State.motionBegins_beginOp, State.fadeInDone_beginOp, State.motionEnds_beginOp, State.beginOp_sched]
    cases s.sched <;> simp only [apply_ite State.beginOp] <;> rfl
  unfold State.schedStep State.sleepRequest
  rw [htransition, apply_ite State.beginOp]
  rfl

theorem State.afterConsume_beginOp :
    s.beginOp.motionTick.schedStep.runZones.stepGens = s.motionTick.schedStep.runZones.stepGens.beginOp := by
  rw [State.motionTick_beginOp, State.schedStep_beginOp, State.runZones_beginOp, State.stepGens_beginOp]

/-- R164: of the press classes Short alone presents the dot-correction table. -/
theorem State.btnConsume_dcWrite : s.btnConsume.dcWrite = (s.dcWrite || s.pressClass == .short) := by
  cases hclass : s.pressClass with
  | none => simp [State.btnConsume_of_none (.inl hclass)]
  | short => simp [State.btnConsume_of_short hclass]
  | long => simp [State.btnConsume_of_long hclass]
  | three => simp [State.btnConsume_of_none (.inr hclass)]

end

/-! ## A run as the composition of its parts (R214) -/

/-- From every state of configuration `c` the run of `ops` does what `part` does, but for the ports that every
operation drives. -/
def RunsAs (c : Config) (ops : List Instr) (part : State → State) : Prop :=
  ∀ s : State, s.cfg = c → ∃ t, execList ops s = .next t ∧ t.cfg = c ∧ t.beginOp = part s.beginOp

theorem execList_append_of_next {xs : List Instr} {s t : State} (h : execList xs s = .next t) (ys : List Instr) :
    execList (xs ++ ys) s = execList ys t := by
  induction xs generalizing s with
  | nil =>
    injection h with h
    rw [h, List.nil_append]
  | cons i is ih =>
    have hexec := exec_eq i s
    rw [execList_cons_of_exec hexec] at h
    rw [List.cons_append, execList_cons_of_exec hexec]
    exact ih h

section
variable {c : Config}

/-- One operation in range. -/
theorem RunsAs.of_effect {i : Instr} {part : State → State} (hi : i.wf c.nz c.ng = true)
    (hpart : ∀ s : State, (effect i s.beginOp).beginOp = part s.beginOp) : RunsAs c [i] part := by
  rintro s rfl
  have hexec := exec_of_wf hi
  exact ⟨_, execList_cons_of_exec hexec [], exec_cfg hexec, hpart s⟩

/-- One operation after the other. -/
theorem RunsAs.append {xs ys : List Instr} {f g : State → State} (hf : RunsAs c xs f) (hg : RunsAs c ys g) :
    RunsAs c (xs ++ ys) fun s => g (f s) := by
  intro s hs
  obtain ⟨t, hxs, ht, hft⟩ := hf s hs
  obtain ⟨u, hys, hu, hgu⟩ := hg t ht
  exact ⟨u, (execList_append_of_next hxs ys).trans hys, hu, hgu.trans (congrArg g hft)⟩

/-- One operation for each round of a loop. -/
theorem RunsAs.loop {op : Nat → Instr} {round : State → Nat → State} {l : List Nat}
    (h : ∀ b ∈ l, RunsAs c [op b] (round · b)) : RunsAs c (l.map op) fun s => l.foldl round s := by
  induction l with
  | nil => exact fun s hs => ⟨s, rfl, hs, rfl⟩
  | cons b l ih =>
    exact (h b List.mem_cons_self).append (ih fun d hd => h d (List.mem_cons_of_mem b hd))

/-- One indexed operation for each entry of a register file: an index below 256 is its own 8-bit operand. -/
theorem RunsAs.indexed {op : BitVec 8 → Instr} {round : State → Nat → State} {n : Nat} (hn : n ≤ 256)
    (hop : ∀ idx : BitVec 8, idx.toNat < n → (op idx).wf c.nz c.ng = true)
    (hround : ∀ (idx : BitVec 8) (s : State), (effect (op idx) s.beginOp).beginOp = round s.beginOp idx.toNat) :
    RunsAs c ((List.range n).map fun k => op (BitVec.ofNat 8 k)) fun s => (List.range n).foldl round s := by
  refine .loop fun k hk => ?_
  have hlt := List.mem_range.1 hk
  have hidx : (BitVec.ofNat 8 k).toNat = k := Nat.mod_eq_of_lt (hlt.trans_le hn)
  exact .of_effect (hop _ (hidx.symm ▸ hlt)) fun s => by rw [hround, hidx]

theorem runsAs_btnConsume : RunsAs c [.btnConsume] fun s => s.btnConsume.beginOp :=
  .of_effect rfl fun _ => rfl

theorem runsAs_motionTick : RunsAs c [.motionTick] State.motionTick :=
  .of_effect rfl fun s => (State.motionTick_beginOp s.beginOp).symm

theorem runsAs_schedStep : RunsAs c [.schedStep] State.schedStep :=
  .of_effect rfl fun s => (State.schedStep_beginOp s.beginOp).symm

theorem runsAs_zoneRuns (hnz : c.nz ≤ 256) :
    RunsAs c ((List.range c.nz).map fun z => .zoneRun (BitVec.ofNat 8 z)) State.runZones := by
  rintro s rfl
  exact RunsAs.indexed (op := .zoneRun) (round := State.zoneRun) hnz (fun _ hlt => decide_eq_true hlt)
    (fun idx t => (State.zoneRun_beginOp t.beginOp idx.toNat).symm) s rfl

theorem runsAs_genSteps (hng : c.ng ≤ 256) :
    RunsAs c ((List.range c.ng).map fun g => .genStep (BitVec.ofNat 8 g)) State.stepGens := by
  rintro s rfl
  exact RunsAs.indexed (op := .genStep) (round := State.genStep) hng (fun _ hlt => decide_eq_true hlt)
    (fun idx t => (State.genStep_beginOp t.beginOp idx.toNat).symm) s rfl

/-- R214: the component operations of a POLL in order. -/
theorem runsAs_components (hnz : c.nz ≤ 256) (hng : c.ng ≤ 256) :
    RunsAs c ([.btnConsume, .motionTick, .schedStep] ++
        (List.range c.nz).map (fun z => .zoneRun (BitVec.ofNat 8 z)) ++
        (List.range c.ng).map (fun g => .genStep (BitVec.ofNat 8 g)))
      fun s => s.btnConsume.motionTick.schedStep.runZones.stepGens.beginOp := by
  intro s hs
  obtain ⟨t, hrun, hcfg, ht⟩ := (((runsAs_btnConsume.append runsAs_motionTick).append runsAs_schedStep).append
    (runsAs_zoneRuns hnz)).append (runsAs_genSteps hng) s hs
  exact ⟨t, hrun, hcfg, ht.trans (State.afterConsume_beginOp s.beginOp.btnConsume)⟩

end

theorem exec_poll (s : State) : exec .poll s = .next s.beginOp.poll := exec_eq .poll s

theorem State.poll_of_awake {s : State} (h : s.asleep = false) :
    s.poll = s.btnConsume.motionTick.schedStep.runZones.stepGens := if_neg (by simp [h])

/-! ## The last writer of a channel (R68, R214) -/

/-- A loop over indices without repeats of which round `i` alone writes what `read` shows, with what `source` shows
before it: after the loop `read` shows what `source` showed at its beginning, when no other round writes either. -/
theorem foldl_one_writer {α : Type} {P : State → Prop} {read source : State → α} {round : State → Nat → State}
    {l : List Nat} {i : Nat} (hl : l.Nodup) (hi : i ∈ l) (hP : ∀ t b, P t → P (round t b))
    (hwrite : ∀ t, P t → read (round t i) = source t)
    (hread : ∀ t b, P t → b ≠ i → read (round t b) = read t)
    (hsource : ∀ t b, P t → b ≠ i → source (round t b) = source t) {s : State} (hs : P s) :
    read (l.foldl round s) = source s := by
  induction l generalizing s with
  | nil => cases hi
  | cons b l ih =>
    obtain ⟨hb, hl⟩ := List.nodup_cons.1 hl
    rw [List.foldl_cons]
    rcases eq_or_ne b i with rfl | hne
    · have hkept := foldl_invariant (fun t => P t ∧ read t = read (round s b)) round l (round s b)
        (fun t d hd ⟨hPt, ht⟩ => ⟨hP t d hPt, (hread t d hPt (ne_of_mem_of_not_mem hd hb)).trans ht⟩)
        ⟨hP s b hs, rfl⟩
      exact hkept.2.trans (hwrite s hs)
    · have hmem := (List.mem_cons.1 hi).resolve_left hne.symm
      exact (ih hl hmem (hP s b hs)).trans (hsource s b hs hne)

/-- What the loops of a POLL keep: the configuration and the form of FRAME. -/
def State.FrameReady (c : Config) (s : State) : Prop := s.cfg = c ∧ s.spaceOk .frame

section
variable {c : Config} {s : State} {z g ch : Nat}

theorem State.FrameReady.zoneRun (hwf : c.wf) (h : s.FrameReady c) (y : Nat) : (s.zoneRun y).FrameReady c := by
  obtain ⟨rfl, hform⟩ := h
  exact ⟨State.zoneRun_cfg s y, State.zoneRun_spaceOk s y .frame hwf hform⟩

theorem State.FrameReady.genStep (hwf : c.wf) (h : s.FrameReady c) (y : Nat) : (s.genStep y).FrameReady c := by
  obtain ⟨rfl, hform⟩ := h
  exact ⟨State.genStep_cfg s y, State.genStep_spaceOk s y .frame hwf hform⟩

/-- The generator that drives a zone exists (R7). -/
theorem Config.gen_lt_ng (hwf : c.wf) (hz : z < c.nz) (hsrc : (c.zoneCfg z).src = .gen g) : g < c.ng := by
  obtain ⟨-, -, -, -, -, -, -, hsrcs, -⟩ := hwf
  have hmem : c.zoneCfg z ∈ c.zones := by
    rw [Config.zoneCfg, List.getD_eq_getElem _ _ hz]
    exact List.getElem_mem hz
  have hok := hsrcs _ hmem
  rw [hsrc] at hok
  exact of_decide_eq_true hok

/-- Of the generators only the one a zone is bound to commits to a channel of the zone. -/
theorem Config.src_of_mem_boundZones {y : Nat} (hwf : c.wf) (hy : y ∈ boundZones c g)
    (hchy : ch ∈ (c.zoneCfg y).channels) (hch : ch ∈ (c.zoneCfg z).channels) : (c.zoneCfg z).src = .gen g :=
  Config.channels_disjoint hwf hchy hch ▸ (mem_boundZones.1 hy).2

theorem State.memRead_genStep_other (hch : ∀ y ∈ boundZones s.cfg g, ch ∉ (s.cfg.zoneCfg y).channels) :
    (s.genStep g).memRead .frame ch = s.memRead .frame ch :=
  State.memRead_foldl_keeps (s.setGen g ((s.gen g).settle (s.genOutput g).1)) ch _ _
    (fun t y => State.commit_cfg t y _) fun t ht y hy => State.memRead_commit_other t y _ (ht ▸ hch y hy)

/-- R133: the loop of ZONE_RUN leaves an ambient zone's level, clamped, in the zone's channels. -/
theorem State.memRead_runZones_of_fade (hwf : s.cfg.wf) (hform : s.spaceOk .frame)
    (hsrc : (s.cfg.zoneCfg z).src = .fade) (hch : ch ∈ (s.cfg.zoneCfg z).channels) :
    s.runZones.memRead .frame ch = clampB s.cfg (s.zone z).level := by
  refine foldl_one_writer (P := State.FrameReady s.cfg) (read := (State.memRead · .frame ch))
    (source := fun t => clampB s.cfg (t.zone z).level) (i := z) List.nodup_range
    (List.mem_range.2 (Config.lt_nz_of_mem hch)) (fun t y ht => ht.zoneRun hwf y) (fun t ht => ?_)
    (fun t y ht hne => ?_) (fun t y _ hne => ?_) ⟨rfl, hform⟩
  · obtain ⟨hcfg, hform⟩ := ht
    rw [State.memRead_zoneRun t z hform.1, hcfg, if_pos ⟨hsrc, hch⟩]
  · exact State.memRead_zoneRun_other t y fun hmem => hne (Config.channels_disjoint hwf (ht.1 ▸ hmem) hch)
  · rw [State.zoneRun_zone_other t y z hne.symm]

/-- R106: the loop of GEN_STEP leaves what the generator of a bound zone emits, clamped, in the zone's channels. -/
theorem State.memRead_stepGens_of_gen (hwf : s.cfg.wf) (hform : s.spaceOk .frame)
    (hsrc : (s.cfg.zoneCfg z).src = .gen g) (hch : ch ∈ (s.cfg.zoneCfg z).channels) :
    s.stepGens.memRead .frame ch = clampB s.cfg (s.genOutput g).1 := by
  have hz := Config.lt_nz_of_mem hch
  refine foldl_one_writer (P := State.FrameReady s.cfg) (read := (State.memRead · .frame ch))
    (source := fun t => clampB s.cfg ((t.gen g).output s.cfg (s.cfg.genCfg g)).1) (i := g) List.nodup_range
    (List.mem_range.2 (Config.gen_lt_ng hwf hz hsrc)) (fun t y ht => ht.genStep hwf y) (fun t ht => ?_)
    (fun t y ht hne => ?_) (fun t y _ hne => ?_) ⟨rfl, hform⟩
  · obtain ⟨hcfg, hform⟩ := ht
    rw [State.memRead_genStep t g hform.1, State.genOutput, hcfg, if_pos ⟨z, mem_boundZones.2 ⟨hz, hsrc⟩, hch⟩]
  · refine State.memRead_genStep_other fun x hx hmem => hne ?_
    rw [ht.1] at hx hmem
    have hy := Config.src_of_mem_boundZones hwf hx hmem hch
    rw [hsrc] at hy
    injection hy with hy
    exact hy.symm
  · rw [State.genStep_gen_other t y g hne.symm]

/-- The loop of GEN_STEP leaves the channels of an ambient zone alone. -/
theorem State.memRead_stepGens_of_fade (hwf : s.cfg.wf) (hsrc : (s.cfg.zoneCfg z).src = .fade)
    (hch : ch ∈ (s.cfg.zoneCfg z).channels) : s.stepGens.memRead .frame ch = s.memRead .frame ch :=
  State.memRead_foldl_keeps s ch _ _ State.genStep_cfg fun t ht y _ =>
    State.memRead_genStep_other fun x hx hmem => by
      rw [ht] at hx hmem
      have hy := Config.src_of_mem_boundZones hwf hx hmem hch
      rw [hsrc] at hy
      cases hy

end

/-! ## The evaluation of zones and generators (R214) -/

theorem Gen.settle_last (r : Gen) (b : Half) : (r.settle b).last = b := by
  rw [Gen.settle_eq]
  split <;> rfl

theorem State.runZones_shaped {s : State} (h : s.shaped) : s.runZones.shaped := by
  obtain ⟨hzones, hgens⟩ := h
  exact ⟨by rw [State.runZones_length, State.runZones_cfg, hzones],
    by rw [State.runZones_gens, State.runZones_cfg, hgens]⟩

theorem State.evaluate_zone {s : State} {z : Nat} (h : s.shaped) (hz : z < s.cfg.nz) :
    s.runZones.stepGens.zone z = { s.zone z with cur := (s.zone z).level } := by
  have hkept : s.runZones.stepGens.zone z = s.runZones.zone z :=
    congrArg (List.getD · z Zone.zero) (State.stepGens_zones s.runZones)
  rw [hkept, State.runZones_zone s h, if_pos hz]

/-- `last` holds what the generator emitted. -/
theorem State.stepGens_last {s : State} {g : Nat} (h : s.shaped) (hg : g < s.cfg.ng) :
    (s.stepGens.gen g).last = (s.genOutput g).1 := by
  rw [State.stepGens_gen s h, if_pos hg, Gen.settle_last]

section
variable {s : State} {z g ch : Nat} (hwf : s.cfg.wf) (hshape : s.shaped) (hform : s.spaceOk .frame)
  (hch : ch ∈ (s.cfg.zoneCfg z).channels)
include hwf hshape hform hch

theorem State.memRead_evaluate_of_fade (hsrc : (s.cfg.zoneCfg z).src = .fade) :
    (s.runZones.stepGens.memRead .frame ch).toNat =
      min (s.runZones.stepGens.zone z).level.toNat s.cfg.maxLevel.toNat := by
  rw [State.memRead_stepGens_of_fade (z := z) (by simpa using hwf) (by simpa using hsrc) (by simpa using hch),
    State.memRead_runZones_of_fade hwf hform hsrc hch, clampB_toNat,
    State.evaluate_zone hshape (Config.lt_nz_of_mem hch)]
  rfl

theorem State.memRead_evaluate_of_gen (hsrc : (s.cfg.zoneCfg z).src = .gen g) :
    (s.runZones.stepGens.memRead .frame ch).toNat =
      min (s.runZones.stepGens.gen g).last.toNat s.cfg.maxLevel.toNat := by
  have hg := Config.gen_lt_ng hwf (Config.lt_nz_of_mem hch) hsrc
  rw [State.memRead_stepGens_of_gen (z := z) (g := g) (by simpa using hwf) (State.runZones_spaceOk s .frame hwf hform)
      (by simpa using hsrc) (by simpa using hch),
    clampB_toNat, State.stepGens_last (State.runZones_shaped hshape) (by simpa using hg), State.runZones_cfg]

end

/-- Nothing before the evaluation writes FRAME or the sizes of the files. -/
theorem State.consumeAndSchedule_form {s : State} (hshape : s.shaped) (hform : s.spaceOk .frame) :
    s.btnConsume.motionTick.schedStep.shaped ∧ s.btnConsume.motionTick.schedStep.spaceOk .frame :=
  ⟨by simpa [State.shaped] using hshape, State.spaceOk_congr (by simp) (by simp [State.space]) hform⟩

/-! ## The statements -/

/-- Settles O17: the scalars by the definition of TICK, the files entry by entry. -/
theorem tickMovesEveryCounterByOne : Obligations.TickMovesEveryCounterByOne := by
  unfold Obligations.TickMovesEveryCounterByOne
  intro s hwf hshape
  refine ⟨_, exec_eq .tick s, rfl, BitVec.toNat_add _ _, dec_toNat _, dec_toNat _, dec_toNat _, dec_toNat _,
    dec_toNat _, effect_shaped .tick (s := s.beginOp) hshape,
    fun z _ => ⟨State.tick_zone_frame s.beginOp.wake z, ?_⟩, fun g _ => ⟨State.tick_gen_frame s.beginOp.wake g, ?_⟩⟩
  · exact (congrArg (·.elapsed.toNat) (State.tick_zone_all s.beginOp.wake z)).trans (Zone.tick_elapsed_toNat _)
  · refine (congrArg (·.acc.toNat) (State.tick_gen_all s.beginOp.wake g)).trans ?_
    change ((s.gen g).tick (s.cfg.genCfg g)).acc.toNat = _
    cases hmode : (s.gen g).mode with
    | running => exact Gen.tick_acc_of_running hmode (GenCfg.period_pos (Config.genCfg_wf hwf g))
    | stopping => exact Gen.tick_acc_of_stopping hmode
    | stopped => rw [Gen.tick_of_stopped (.inl hmode)]
    | three => rw [Gen.tick_of_stopped (.inr hmode)]

/-- Settles O20: the run is the composition of the parts, which pass on the one port that BTN_CONSUME drives. -/
theorem pollIsItsComponentsInOrder : Obligations.PollIsItsComponentsInOrder := by
  unfold Obligations.PollIsItsComponentsInOrder
  rintro s ⟨-, -, -, hnz, hng, -⟩ hawake
  obtain ⟨u, hrun, -, hu⟩ := runsAs_components hnz hng s rfl
  refine ⟨_, u, exec_poll s, hrun, ?_⟩
  have hpoll := State.poll_of_awake (s := s.beginOp) hawake
  have hdc : s.beginOp.poll.dcWrite = (s.pressClass == .short) := by simp [hpoll, State.btnConsume_dcWrite]
  calc s.beginOp.poll
    _ = { s.beginOp.poll.beginOp with dcWrite := s.beginOp.poll.dcWrite } := State.ext_iff.2 (by simp [hpoll])
    _ = { u.beginOp with dcWrite := s.pressClass == .short } := by rw [hdc, hpoll, hu]

/-- Settles O21: each channel by its last writer, the loop of ZONE_RUN or that of GEN_STEP. -/
theorem pollComposesTheFrame : Obligations.PollComposesTheFrame := by
  unfold Obligations.PollComposesTheFrame
  intro s hwf hshape hform hawake
  obtain ⟨hshape, hform⟩ := State.consumeAndSchedule_form (s := s.beginOp) hshape hform
  have hcfg : s.beginOp.btnConsume.motionTick.schedStep.cfg = s.cfg := by simp
  refine ⟨_, exec_poll s, ?_, fun ch hch => ?_⟩
  · rw [State.poll_of_awake (s := s.beginOp) hawake]
    generalize s.beginOp.btnConsume.motionTick.schedStep = v at hshape hform hcfg ⊢
    rw [← hcfg] at hwf ⊢
    refine fun z hz => ⟨?_, fun ch hch => ?_⟩
    · rw [State.evaluate_zone hshape hz]
      rfl
    · cases hsrc : (v.cfg.zoneCfg z).src with
      | fade => exact State.memRead_evaluate_of_fade hwf hshape hform hch hsrc
      | gen g => exact State.memRead_evaluate_of_gen hwf hshape hform hch hsrc
  · exact State.memRead_poll_unzoned (s := s.beginOp) fun z hmem => hch z (Config.lt_nz_of_mem hmem) hmem

/-- Settles O18: `frame_out` is the vector of FRAME. -/
theorem refreshSendsTheWholeFrame : Obligations.RefreshSendsTheWholeFrame := by
  unfold Obligations.RefreshSendsTheWholeFrame
  intro s
  exact ⟨_, exec_eq .refresh s, rfl, State.vector_length s.beginOp.wake .frame,
    fun _ hch => State.vector_getElem? (s := s.beginOp.wake) .frame hch⟩

/-- Settles O19: a sleeping POLL is `beginOp` alone. -/
theorem pollWhileAsleepDoesNothing : Obligations.PollWhileAsleepDoesNothing := by
  unfold Obligations.PollWhileAsleepDoesNothing
  intro s hasleep
  rw [exec_poll, State.poll_of_asleep (s := s.beginOp) hasleep]
  rfl

/-- Settles O24: the places of the flags in the word, which `beginOp` does not touch. -/
theorem statusReadsTheFlags : Obligations.StatusReadsTheFlags := by
  unfold Obligations.StatusReadsTheFlags
  intro s
  obtain ⟨hmotion, hdepressed, hhalf, hlock, hasleep, hlevel⟩ := State.statusWord_flags s.beginOp
  obtain ⟨hsched, hpress⟩ := State.statusWord_patterns s.beginOp
  refine ⟨_, exec_eq .status s, rfl, hmotion, hdepressed, hhalf, hlock, hasleep,
    (congrArg BitVec.toNat hsched).trans ?_, (congrArg BitVec.toNat hpress).trans ?_, hlevel,
    State.statusWord_rest s.beginOp⟩
  · rw [State.beginOp_sched]
    cases s.sched <;> rfl
  · rw [State.beginOp_pressClass]
    cases s.pressClass <;> rfl

end Sys2Proof.Machine
end

section
/-! Proofs/Exceptions.lean: that every operation and every step completes, what each operation does to `now` and to the
five timers, and the statements of 60_exceptions.md that follow. -/

namespace Sys2Proof.Machine

/-! ## Completion (R230) -/

theorem exec_completes (i : Instr) (s : State) : ∃ t, exec i s = .next t := ⟨_, exec_eq i s⟩

/-- Of the branches of `step` only the one for an ill-formed configuration stops. -/
theorem step_completes {s : State} (hwf : s.cfg.wf) : ∃ t, step s = .next t := by
  cases hcmd : s.cmd with
  | nil => exact ⟨_, step_of_no_word hwf hcmd⟩
  | cons w rest =>
    cases hdec : decode s.cfg.nz s.cfg.ng w with
    | ok i =>
      rw [step_of_decode_ok hwf hcmd hdec]
      exact exec_completes i { s with cmd := rest }
    | error r => exact ⟨_, step_of_decode_error hwf hcmd hdec⟩

/-! ## The parts of an operation that load a timer (R150, R160, R182, R184) -/

/-- From `s` to `t` each fade timer is as it was or loaded with FADE_MS. -/
def State.LoadsFadeTimers (s t : State) : Prop :=
  (t.fadeInTimer = s.fadeInTimer ∨ t.fadeInTimer = s.cfg.fadeMs) ∧
    (t.fadeOutTimer = s.fadeOutTimer ∨ t.fadeOutTimer = s.cfg.fadeMs)

section
variable (s : State)

theorem State.motionEdge_motionTimer :
    s.motionEdge.motionTimer = if s.lockout then s.motionTimer else s.cfg.holdMs := by
  unfold State.motionEdge
  split <;> rfl

/-- R160: a press loads both timers; a release and a filtered edge leave them. -/
theorem State.buttonEdge_timers (level : Bool) :
    ((s.buttonEdge level).shortTimer = s.shortTimer ∧ (s.buttonEdge level).longTimer = s.longTimer) ∨
    ((s.buttonEdge level).shortTimer = s.cfg.shortMs ∧ (s.buttonEdge level).longTimer = s.cfg.longMs) := by
  by_cases hseen : level = s.lastLevel
  · rw [State.buttonEdge_of_seen hseen]
    exact .inl ⟨rfl, rfl⟩
  · by_cases hclosed : level = s.cfg.closed
    · rw [State.buttonEdge_of_press hseen hclosed]
      exact .inr ⟨rfl, rfl⟩
    · rw [State.buttonEdge_of_release hseen hclosed]
      exact .inl (by simp)

/-- R182, R184: a SCHED_STEP loads a fade timer when motion begins or ends, in no other row of R188. -/
theorem State.schedStep_loadsFadeTimers : s.LoadsFadeTimers s.schedStep := by
  cases hmotion : s.inMotion with
  | true =>
    cases hsched : s.sched with
    | idle => simp [State.LoadsFadeTimers, State.schedStep_of_motionBegins hmotion (.inl hsched)]
    | fadingOut => simp [State.LoadsFadeTimers, State.schedStep_of_motionBegins hmotion (.inr hsched)]
    | fadingIn =>
      by_cases htimer : s.fadeInTimer = 0
      · simp [State.LoadsFadeTimers, State.schedStep_of_fadeInDone hmotion hsched htimer]
      · simp [State.LoadsFadeTimers, State.schedStep_of_stays hmotion (.inl ⟨hsched, htimer⟩)]
    | steadyOn => simp [State.LoadsFadeTimers, State.schedStep_of_stays hmotion (.inr hsched)]
  | false =>
    cases hsched : s.sched with
    | idle => simp [State.LoadsFadeTimers, State.schedStep_of_dark hmotion (.inl hsched)]
    | fadingOut => simp [State.LoadsFadeTimers, State.schedStep_of_dark hmotion (.inr hsched)]
    | fadingIn => simp [State.LoadsFadeTimers, State.schedStep_of_motionEnds hmotion (.inl hsched)]
    | steadyOn => simp [State.LoadsFadeTimers, State.schedStep_of_motionEnds hmotion (.inr hsched)]

/-- R214: the other parts of a POLL leave the fade timers to its SCHED_STEP. -/
theorem State.poll_loadsFadeTimers : s.LoadsFadeTimers s.poll := by
  cases hasleep : s.asleep with
  | true => simp [State.LoadsFadeTimers, State.poll_of_asleep hasleep]
  | false =>
    simpa [State.LoadsFadeTimers, State.poll_of_awake hasleep] using
      s.btnConsume.motionTick.schedStep_loadsFadeTimers

end

/-! ## Time under each operation (R241) -/

section
variable {i : Instr} (htick : i ≠ .tick) (hreset : i ≠ .reset) (s : State)
include htick hreset

theorem effect_now : (effect i s).now = s.now := by
  cases i with
  | tick => exact absurd rfl htick
  | reset => exact absurd rfl hreset
  | poll => exact s.poll_leavesInterruptSide.now
  | _ => simp [effect]

/-- MOTION_EDGE loads the hold time; BTN_CONSUME, in a POLL too, clears it (R150, R165). -/
theorem effect_motionTimer :
    (effect i s).motionTimer = s.motionTimer ∨ (effect i s).motionTimer = s.cfg.holdMs ∨
      (effect i s).motionTimer = 0 := by
  cases i with
  | tick => exact absurd rfl htick
  | reset => exact absurd rfl hreset
  | motionEdge => cases hlock : s.lockout <;> simp [effect, State.motionEdge_motionTimer, hlock]
  | poll => exact s.poll_leavesInterruptSide.motionTimer.imp_right .inr
  | btnConsume => exact s.btnConsume_leavesInterruptSide.motionTimer.imp_right .inr
  | _ => simp [effect]

/-- R160: BUTTON_EDGE alone loads the button timers. -/
theorem effect_buttonTimers :
    ((effect i s).shortTimer = s.shortTimer ∧ (effect i s).longTimer = s.longTimer) ∨
    ((effect i s).shortTimer = s.cfg.shortMs ∧ (effect i s).longTimer = s.cfg.longMs) := by
  cases i with
  | tick => exact absurd rfl htick
  | reset => exact absurd rfl hreset
  | buttonEdge level => exact s.wake.buttonEdge_timers level
  | poll => exact .inl ⟨s.poll_leavesInterruptSide.shortTimer, s.poll_leavesInterruptSide.longTimer⟩
  | _ => simp [effect]

/-- R182, R184: SCHED_STEP alone, in a POLL too, loads the fade timers. -/
theorem effect_loadsFadeTimers : s.LoadsFadeTimers (effect i s) := by
  cases i with
  | tick => exact absurd rfl htick
  | reset => exact absurd rfl hreset
  | poll => exact s.poll_loadsFadeTimers
  | schedStep => exact s.schedStep_loadsFadeTimers
  | _ => simp [State.LoadsFadeTimers, effect]

end

/-! ## The statements -/

/-- Settles O59: a performed operation does to time what its effect does after `beginOp`, which leaves time alone, and a
refused one touches its ports only. -/
theorem onlyTickMovesTime : Obligations.OnlyTickMovesTime := by
  unfold Obligations.OnlyTickMovesTime
  intro i s t htick hreset hexec
  rcases exec_cases hexec with ⟨-, rfl⟩ | ⟨-, rfl⟩
  · have hbutton := effect_buttonTimers htick hreset s.beginOp
    have hfade := effect_loadsFadeTimers htick hreset s.beginOp
    exact ⟨effect_now htick hreset s.beginOp, effect_motionTimer htick hreset s.beginOp,
      hbutton.imp And.left And.left, hbutton.imp And.right And.right, hfade⟩
  · simp

/-- Settles O10: one equation gives what each operation answers, one for each branch what a step does. -/
theorem everyOperationAndStepCompletes : Obligations.EveryOperationAndStepCompletes := by
  unfold Obligations.EveryOperationAndStepCompletes
  exact ⟨exec_completes, fun _ hwf => step_completes hwf⟩

end Sys2Proof.Machine
end

section
/-! Proofs/Hazards.lean: a dark state under the evaluation of a POLL, the POLL right after RESET as the evaluation of
such a state that asks to sleep, and the statements of 70_reset_and_hazards.md that follow. -/

namespace Sys2Proof.Machine

/-! ## A dark state under the evaluation of a POLL (R106, R133) -/

/-- No zone has a level, no generator emits a brightness, and FRAME is 0. -/
structure State.Dark (s : State) : Prop where
  zones : ∀ z, (s.zone z).level = 0
  gens : ∀ g, (s.genOutput g).1 = 0
  frame : ∀ ch, s.memRead .frame ch = 0

theorem clampB_zero (c : Config) : clampB c 0 = 0 :=
  BitVec.eq_of_toNat_eq ((clampB_toNat c 0).trans (Nat.zero_min _))

theorem State.genOutput_runZones (s : State) (g : Nat) : s.runZones.genOutput g = s.genOutput g := by
  simp only [State.genOutput, State.gen, State.runZones_gens, State.runZones_cfg]

/-- The last writer of a channel writes 0, and a channel of no zone is not written. -/
theorem State.Dark.memRead_evaluate {s : State} (h : s.Dark) (hwf : s.cfg.wf) (hform : s.spaceOk .frame) (ch : Nat) :
    s.runZones.stepGens.memRead .frame ch = 0 := by
  have hwf' : s.runZones.cfg.wf := by simpa using hwf
  by_cases hzoned : ∃ z, ch ∈ (s.cfg.zoneCfg z).channels
  · obtain ⟨z, hch⟩ := hzoned
    have hch' : ch ∈ (s.runZones.cfg.zoneCfg z).channels := by simpa using hch
    cases hsrc : (s.cfg.zoneCfg z).src with
    | fade =>
      rw [State.memRead_stepGens_of_fade hwf' (by simpa using hsrc) hch',
        State.memRead_runZones_of_fade hwf hform hsrc hch, h.zones, clampB_zero]
    | gen g =>
      rw [State.memRead_stepGens_of_gen hwf' (State.runZones_spaceOk s .frame hwf hform) (by simpa using hsrc) hch',
        State.genOutput_runZones, h.gens, clampB_zero]
  · have hunzoned : ∀ z, ch ∉ (s.cfg.zoneCfg z).channels := not_exists.1 hzoned
    rw [State.memRead_stepGens_unzoned (by simpa using hunzoned), State.memRead_runZones_unzoned hunzoned, h.frame]

/-! ## The first POLL after RESET (R265) -/

section
variable (c : Config) (input : List Word)

/-- The reset state with its strobes down, asking to sleep: what the first POLL evaluates. -/
def State.resetAsleep : State := { (State.resetOf c input).beginOp with asleep := true }

/-- R45: every zone is settled at 0, and a stopped generator emits 0 or its `last`, which is 0. -/
theorem State.dark_resetAsleep : (State.resetAsleep c input).Dark where
  zones z := by
    change ((State.resetOf c input).zone z).level = 0
    rw [State.zone_resetOf]
    rfl
  gens g := by
    change (((State.resetOf c input).gen g).output c (c.genCfg g)).1 = 0
    rw [State.gen_resetOf, Gen.output_of_stopped (.inl rfl)]
    exact ite_self _
  frame ch := State.memRead_resetOf c input .frame ch

/-- R187: no press is pending, no motion is seen, and in Idle with every generator stopped the sleep condition holds. -/
theorem State.schedStep_of_reset :
    (State.resetOf c input).beginOp.btnConsume.motionTick.schedStep = State.resetAsleep c input := by
  have hevents : (State.resetOf c input).beginOp.btnConsume.motionTick = (State.resetOf c input).beginOp := by
    rw [State.btnConsume_of_none (s := (State.resetOf c input).beginOp) (.inl rfl), State.motionTick_eq]
    rfl
  have hsleeps : (State.resetOf c input).beginOp.sleepCondition = true := by
    refine State.sleepCondition_iff.2 ⟨rfl, rfl, rfl, rfl, fun g _ => ?_⟩
    change ((State.resetOf c input).gen g).mode ≠ .stopping
    rw [State.gen_resetOf]
    decide
  rw [hevents, State.schedStep, State.transition_of_dark rfl (.inl rfl)]
  exact if_pos hsleeps

theorem State.poll_of_reset :
    (State.resetOf c input).beginOp.poll = (State.resetAsleep c input).runZones.stepGens := by
  rw [State.poll_of_awake rfl, State.schedStep_of_reset]

/-- R217, R265: `asleep`, and `lastLevel` where the level of an open button is high. -/
theorem State.statusWord_resetAsleep :
    (State.resetAsleep c input).statusWord = if c.closed then 0x010 else 0x210 := by
  change (BitVec.ofBool (!c.closed) ++ PressClass.none.bits ++ Sched.idle.bits ++ BitVec.ofBool true ++
    BitVec.ofBool false ++ BitVec.ofBool false ++ BitVec.ofBool false ++ BitVec.ofBool false).setWidth 32 = _
  cases c.closed <;> decide

end

theorem exec_status (s : State) : exec .status s = .next (s.beginOp.withResult s.statusWord) := exec_eq .status s

/-- R217: the flag word is a function of the scalar flags, which the evaluation of zones and generators leaves. -/
theorem State.statusWord_evaluate (s : State) : s.runZones.stepGens.statusWord = s.statusWord := by
  simp [State.statusWord]

/-! ## The statements -/

/-- Settles O28: the edge writes the flag that the expiry check writes and the timer that it reads, so it has the last
word behind the check, and before it the check finds hold time left. -/
theorem motionTickAndEdgeEndInOneState : Obligations.MotionTickAndEdgeEndInOneState := by
  unfold Obligations.MotionTickAndEdgeEndInOneState
  intro s hlock hhold
  refine ⟨{ s with
    asleep := false, motionTimer := s.cfg.holdMs, inMotion := true,
    result := 0, cmdErr := false, frameValid := false, dcWrite := false }, ?_, ?_, rfl, rfl⟩
  · rw [execList_cons_of_exec (motionTickClearsOnExpiry s)]
    refine execList_cons_of_exec ((motionEdgeRestartsTheHoldTime _).1 ?_) []
    exact hlock
  · have hedge := (motionEdgeRestartsTheHoldTime s).1 hlock
    rw [execList_cons_of_exec hedge, execList_cons_of_exec (motionTickClearsOnExpiry _), bne_iff_ne.2 hhold]
    rfl

/-- Settles O23: the first POLL evaluates a dark state that asks to sleep, and STATUS reads the flags of that state. -/
theorem freshResetAsksToSleep : Obligations.FreshResetAsksToSleep := by
  unfold Obligations.FreshResetAsksToSleep
  refine ⟨fun c input hwf => ⟨_, exec_poll _, ?_⟩, fun s hcfg => ?_⟩
  · rw [State.poll_of_reset]
    have hform : (State.resetAsleep c input).spaceOk .frame := (State.inv_resetOf c input).frameForm
    exact ⟨by simp [State.resetAsleep], by simp [State.resetAsleep],
      (State.dark_resetAsleep c input).memRead_evaluate hwf hform⟩
  · have hreset : exec .reset s = .next (State.resetOf Config.cfgT s.cmd) := hcfg ▸ exec_eq .reset s
    refine ⟨_, (execList_cons_of_exec hreset _).trans
      ((execList_cons_of_exec (exec_poll _) _).trans (execList_cons_of_exec (exec_status _) [])), ?_⟩
    rw [State.withResult_result, State.poll_of_reset, State.statusWord_evaluate, State.statusWord_resetAsleep]
    rfl

end Sys2Proof.Machine
end
